-- ==== Sys2Proof/Word.lean ====
section
/-! DEFINITION. The word types of the core: `u8` and `u16` of 00_scope.md R10. -/

namespace Sys2Proof

/-- R10 `u8`: a register other than PC, a memory cell, an opcode or operand byte. -/
abbrev Byte := BitVec 8

/-- R10 `u16`: the program counter and every memory address. Addition wraps modulo 65536 (R62). -/
abbrev Addr := BitVec 16

end Sys2Proof
end

