-- ==== Sys2Proof/Config.lean ====
section
/-! DEFINITION. The implementation parameters of 00_scope.md R8 that the spec leaves OPEN, as plain data, and the
constants it fixes. The two open parameters stand in State as one field (`Params`), which no step and no reset writes, so
that a statement about every state holds for every value of them (logs 5 and 6). -/

namespace Sys2Proof

/-- R8, R265 `PULL_B`: what PLP and RTI leave in the register's B bit. -/
inductive PullB where
  | keep   -- the B bit before the pull
  | clear  -- 0
  deriving DecidableEq, Repr

/-- R8: the open parameters of one build of the core. `unofficialNops` is `UNOFFICIAL_NOPS`, the opcodes of R104 that
have a descriptor; `pullB` is `PULL_B`. -/
structure Params where
  unofficialNops : List Byte
  pullB : PullB
  deriving DecidableEq, Repr

/-- R330: the inputs of the reset operation: `RESET_PC_OVERRIDE` (absent or a `u16`) and the free values `a0`, `x0`, `y0`
and `p0` of what reset leaves unspecified (R45, D5). -/
structure ResetInput where
  pcOverride : Option Addr
  a0 : Byte
  x0 : Byte
  y0 : Byte
  p0 : Byte
  deriving DecidableEq, Repr

namespace Config

/-- R8: the stack page base. -/
def stackPage : Addr := 0x0100

/-- R8: the address of the reset vector's low byte; its high byte is at the next address. -/
def resetVector : Addr := 0xFFFC

/-- R8, R45: SP after reset. -/
def resetSp : Byte := 0xFD

end Config
end Sys2Proof
end

