-- ==== Sys2Proof/Syntax.lean ====
section
/-! DEFINITION. The instructions as syntax: one constructor for every row of spec/opcode_table.json (30_encoding.md R100
and R104), with the operand R93 reads out of its bytes; the mnemonics, the addressing modes and the descriptor of R92. -/

namespace Sys2Proof

/-- The 56 mnemonics of R100. -/
inductive Mnemonic where
  | lda | ldx | ldy | sta | stx | sty | tax | tay | txa | tya | tsx | txs | adc | sbc | and | ora | eor | cmp | cpx
  | cpy | bit | inc | dec | inx | iny | dex | dey | asl | lsr | rol | ror | bpl | bmi | bvc | bvs | bcc | bcs | bne
  | beq | jmp | jsr | rts | pha | php | pla | plp | clc | sec | cli | sei | clv | cld | sed | nop | brk | rti
  deriving DecidableEq, Repr

/-- R92: the addressing mode of a descriptor: the eleven modes of 40_addressing.md, and `imp` and `acc`, the implied
sentinel and the accumulator forms (R121). -/
inductive Mode where
  | imp | acc | imm | zp | zpx | zpy | abs | absx | absy | ind | izx | izy | rel
  deriving DecidableEq, Repr

/-- R92: an instruction descriptor, less its effect function, which is the instruction's meaning in Machine/. -/
structure Descriptor where
  mnemonic : Mnemonic
  mode : Mode
  length : Nat
  baseCycles : Nat
  pageCrossExtra : Bool
  branchExtra : Bool
  deriving DecidableEq, Repr

/-- The instructions. `n` is an 8-bit operand, `r` a branch offset byte read as two's complement, `w` a 16-bit operand
(R93). The opcode of a `nop` row of R104 stands in its name. -/
inductive Instr where
  | ldaIzx (n : Byte)
  | ldaZp (n : Byte)
  | ldaImm (n : Byte)
  | ldaAbs (w : Addr)
  | ldaIzy (n : Byte)
  | ldaZpx (n : Byte)
  | ldaAbsy (w : Addr)
  | ldaAbsx (w : Addr)
  | ldxImm (n : Byte)
  | ldxZp (n : Byte)
  | ldxAbs (w : Addr)
  | ldxZpy (n : Byte)
  | ldxAbsy (w : Addr)
  | ldyImm (n : Byte)
  | ldyZp (n : Byte)
  | ldyAbs (w : Addr)
  | ldyZpx (n : Byte)
  | ldyAbsx (w : Addr)
  | staIzx (n : Byte)
  | staZp (n : Byte)
  | staAbs (w : Addr)
  | staIzy (n : Byte)
  | staZpx (n : Byte)
  | staAbsy (w : Addr)
  | staAbsx (w : Addr)
  | stxZp (n : Byte)
  | stxAbs (w : Addr)
  | stxZpy (n : Byte)
  | styZp (n : Byte)
  | styAbs (w : Addr)
  | styZpx (n : Byte)
  | tax
  | tay
  | txa
  | tya
  | tsx
  | txs
  | adcIzx (n : Byte)
  | adcZp (n : Byte)
  | adcImm (n : Byte)
  | adcAbs (w : Addr)
  | adcIzy (n : Byte)
  | adcZpx (n : Byte)
  | adcAbsy (w : Addr)
  | adcAbsx (w : Addr)
  | sbcIzx (n : Byte)
  | sbcZp (n : Byte)
  | sbcImm (n : Byte)
  | sbcAbs (w : Addr)
  | sbcIzy (n : Byte)
  | sbcZpx (n : Byte)
  | sbcAbsy (w : Addr)
  | sbcAbsx (w : Addr)
  | andIzx (n : Byte)
  | andZp (n : Byte)
  | andImm (n : Byte)
  | andAbs (w : Addr)
  | andIzy (n : Byte)
  | andZpx (n : Byte)
  | andAbsy (w : Addr)
  | andAbsx (w : Addr)
  | oraIzx (n : Byte)
  | oraZp (n : Byte)
  | oraImm (n : Byte)
  | oraAbs (w : Addr)
  | oraIzy (n : Byte)
  | oraZpx (n : Byte)
  | oraAbsy (w : Addr)
  | oraAbsx (w : Addr)
  | eorIzx (n : Byte)
  | eorZp (n : Byte)
  | eorImm (n : Byte)
  | eorAbs (w : Addr)
  | eorIzy (n : Byte)
  | eorZpx (n : Byte)
  | eorAbsy (w : Addr)
  | eorAbsx (w : Addr)
  | cmpIzx (n : Byte)
  | cmpZp (n : Byte)
  | cmpImm (n : Byte)
  | cmpAbs (w : Addr)
  | cmpIzy (n : Byte)
  | cmpZpx (n : Byte)
  | cmpAbsy (w : Addr)
  | cmpAbsx (w : Addr)
  | cpxImm (n : Byte)
  | cpxZp (n : Byte)
  | cpxAbs (w : Addr)
  | cpyImm (n : Byte)
  | cpyZp (n : Byte)
  | cpyAbs (w : Addr)
  | bitZp (n : Byte)
  | bitAbs (w : Addr)
  | incZp (n : Byte)
  | incAbs (w : Addr)
  | incZpx (n : Byte)
  | incAbsx (w : Addr)
  | decZp (n : Byte)
  | decAbs (w : Addr)
  | decZpx (n : Byte)
  | decAbsx (w : Addr)
  | inx
  | iny
  | dex
  | dey
  | aslZp (n : Byte)
  | aslAcc
  | aslAbs (w : Addr)
  | aslZpx (n : Byte)
  | aslAbsx (w : Addr)
  | lsrZp (n : Byte)
  | lsrAcc
  | lsrAbs (w : Addr)
  | lsrZpx (n : Byte)
  | lsrAbsx (w : Addr)
  | rolZp (n : Byte)
  | rolAcc
  | rolAbs (w : Addr)
  | rolZpx (n : Byte)
  | rolAbsx (w : Addr)
  | rorZp (n : Byte)
  | rorAcc
  | rorAbs (w : Addr)
  | rorZpx (n : Byte)
  | rorAbsx (w : Addr)
  | bpl (r : Byte)
  | bmi (r : Byte)
  | bvc (r : Byte)
  | bvs (r : Byte)
  | bcc (r : Byte)
  | bcs (r : Byte)
  | bne (r : Byte)
  | beq (r : Byte)
  | jmpAbs (w : Addr)
  | jmpInd (w : Addr)
  | jsr (w : Addr)
  | rts
  | pha
  | php
  | pla
  | plp
  | clc
  | sec
  | cli
  | sei
  | clv
  | cld
  | sed
  | nop
  | nopZp04 (n : Byte)
  | nopAbs0C (w : Addr)
  | nopZpx14 (n : Byte)
  | nopImp1A
  | nopAbsx1C (w : Addr)
  | nopZpx34 (n : Byte)
  | nopImp3A
  | nopAbsx3C (w : Addr)
  | nopZp44 (n : Byte)
  | nopZpx54 (n : Byte)
  | nopImp5A
  | nopAbsx5C (w : Addr)
  | nopZp64 (n : Byte)
  | nopZpx74 (n : Byte)
  | nopImp7A
  | nopAbsx7C (w : Addr)
  | nopImm80 (n : Byte)
  | nopImm82 (n : Byte)
  | nopImm89 (n : Byte)
  | nopImmC2 (n : Byte)
  | nopZpxD4 (n : Byte)
  | nopImpDA
  | nopAbsxDC (w : Addr)
  | nopImmE2 (n : Byte)
  | nopZpxF4 (n : Byte)
  | nopImpFA
  | nopAbsxFC (w : Addr)
  | brk
  | rti
  deriving DecidableEq, Repr

end Sys2Proof
end

