-- ==== Sys2Proof/WellFormed.lean ====
section
/-! DEFINITION. What makes an instruction well formed. The operand widths are in the types of `Instr`; what is left to check is
that the instruction HAS A DESCRIPTOR: a documented instruction always has one (R100), a candidate NOP of R104 only when its
opcode is in UNOFFICIAL_NOPS. `paramsWf` is the same check on the parameter itself: a subset of the 27 candidates, in one
canonical form. -/

namespace Sys2Proof

/-- R104: the opcode of a candidate NOP-equivalent, and `none` for a documented instruction. -/
def Instr.candidateOpcode : Instr → Option Byte
  | .nopZp04 _ => some 0x04
  | .nopAbs0C _ => some 0x0C
  | .nopZpx14 _ => some 0x14
  | .nopImp1A => some 0x1A
  | .nopAbsx1C _ => some 0x1C
  | .nopZpx34 _ => some 0x34
  | .nopImp3A => some 0x3A
  | .nopAbsx3C _ => some 0x3C
  | .nopZp44 _ => some 0x44
  | .nopZpx54 _ => some 0x54
  | .nopImp5A => some 0x5A
  | .nopAbsx5C _ => some 0x5C
  | .nopZp64 _ => some 0x64
  | .nopZpx74 _ => some 0x74
  | .nopImp7A => some 0x7A
  | .nopAbsx7C _ => some 0x7C
  | .nopImm80 _ => some 0x80
  | .nopImm82 _ => some 0x82
  | .nopImm89 _ => some 0x89
  | .nopImmC2 _ => some 0xC2
  | .nopZpxD4 _ => some 0xD4
  | .nopImpDA => some 0xDA
  | .nopAbsxDC _ => some 0xDC
  | .nopImmE2 _ => some 0xE2
  | .nopZpxF4 _ => some 0xF4
  | .nopImpFA => some 0xFA
  | .nopAbsxFC _ => some 0xFC
  | .ldaIzx _ | .ldaZp _ | .ldaImm _ | .ldaAbs _ | .ldaIzy _ | .ldaZpx _ | .ldaAbsy _ | .ldaAbsx _ | .ldxImm _
  | .ldxZp _ | .ldxAbs _ | .ldxZpy _ | .ldxAbsy _ | .ldyImm _ | .ldyZp _ | .ldyAbs _ | .ldyZpx _ | .ldyAbsx _
  | .staIzx _ | .staZp _ | .staAbs _ | .staIzy _ | .staZpx _ | .staAbsy _ | .staAbsx _ | .stxZp _ | .stxAbs _
  | .stxZpy _ | .styZp _ | .styAbs _ | .styZpx _ | .tax | .tay | .txa | .tya | .tsx | .txs | .adcIzx _ | .adcZp _
  | .adcImm _ | .adcAbs _ | .adcIzy _ | .adcZpx _ | .adcAbsy _ | .adcAbsx _ | .sbcIzx _ | .sbcZp _ | .sbcImm _
  | .sbcAbs _ | .sbcIzy _ | .sbcZpx _ | .sbcAbsy _ | .sbcAbsx _ | .andIzx _ | .andZp _ | .andImm _ | .andAbs _
  | .andIzy _ | .andZpx _ | .andAbsy _ | .andAbsx _ | .oraIzx _ | .oraZp _ | .oraImm _ | .oraAbs _ | .oraIzy _
  | .oraZpx _ | .oraAbsy _ | .oraAbsx _ | .eorIzx _ | .eorZp _ | .eorImm _ | .eorAbs _ | .eorIzy _ | .eorZpx _
  | .eorAbsy _ | .eorAbsx _ | .cmpIzx _ | .cmpZp _ | .cmpImm _ | .cmpAbs _ | .cmpIzy _ | .cmpZpx _ | .cmpAbsy _
  | .cmpAbsx _ | .cpxImm _ | .cpxZp _ | .cpxAbs _ | .cpyImm _ | .cpyZp _ | .cpyAbs _ | .bitZp _ | .bitAbs _
  | .incZp _ | .incAbs _ | .incZpx _ | .incAbsx _ | .decZp _ | .decAbs _ | .decZpx _ | .decAbsx _ | .inx | .iny
  | .dex | .dey | .aslZp _ | .aslAcc | .aslAbs _ | .aslZpx _ | .aslAbsx _ | .lsrZp _ | .lsrAcc | .lsrAbs _
  | .lsrZpx _ | .lsrAbsx _ | .rolZp _ | .rolAcc | .rolAbs _ | .rolZpx _ | .rolAbsx _ | .rorZp _ | .rorAcc | .rorAbs _
  | .rorZpx _ | .rorAbsx _ | .bpl _ | .bmi _ | .bvc _ | .bvs _ | .bcc _ | .bcs _ | .bne _ | .beq _ | .jmpAbs _
  | .jmpInd _ | .jsr _ | .rts | .pha | .php | .pla | .plp | .clc | .sec | .cli | .sei | .clv | .cld | .sed | .nop
  | .brk | .rti => none

/-- R103, R104: the instruction's opcode has a descriptor in the table of a build with these UNOFFICIAL_NOPS. -/
def Instr.wf (nops : List Byte) (i : Instr) : Bool :=
  match i.candidateOpcode with
  | none => true
  | some op => nops.contains op

/-- R104: the 27 candidates, rising. -/
def nopCandidates : List Byte :=
  [0x04, 0x0C, 0x14, 0x1A, 0x1C, 0x34, 0x3A, 0x3C, 0x44, 0x54, 0x5A, 0x5C, 0x64, 0x74,
   0x7A, 0x7C, 0x80, 0x82, 0x89, 0xC2, 0xD4, 0xDA, 0xDC, 0xE2, 0xF4, 0xFA, 0xFC]

/-- A list of bytes is strictly rising. -/
def risingBytes : List Byte → Bool
  | [] => true
  | [_] => true
  | v :: w :: vs => decide (v < w) && risingBytes (w :: vs)

/-- R104: UNOFFICIAL_NOPS is a subset of the candidates; the list that holds it is strictly rising, so that equal sets are
equal data. -/
def paramsWf (c : Params) : Bool :=
  risingBytes c.unofficialNops && c.unofficialNops.all nopCandidates.contains

end Sys2Proof
end

