-- ==== Sys2Proof/Decode.lean ====
section
/-! DEFINITION. Bytes to instructions and back: byte order (R63), the 256-slot opcode map (R101), the decoder, the encoder
written from the table of R100, and the descriptors of R92. -/

namespace Sys2Proof

/-- `hi ++ lo` (R11): a 16-bit value from its two bytes. -/
def hiLo (hi lo : Byte) : Addr := hi.append lo

/-- Bits 7 to 0 of a 16-bit value. -/
def lowByte (w : Addr) : Byte := w.extractLsb' 0 8

/-- Bits 15 to 8 of a 16-bit value. -/
def highByte (w : Addr) : Byte := w.extractLsb' 8 8

/-- R11 `zext_16`. -/
def zext16 (v : Byte) : Addr := v.setWidth 16

/-- R11 `sext_16`: the two's-complement reading of a byte, modulo 65536. -/
def sext16 (v : Byte) : Addr := v.signExtend 16

/-- R91: what a slot of the opcode map builds from the bytes after the opcode: the formats F1, F2 and F3. -/
inductive Slot where
  | f1 (i : Instr)
  | f2 (mk : Byte → Instr)
  | f3 (mk : Addr → Instr)

open Slot in
/-- R101, rows 0x to 3x; `none` is an opcode that is never assigned (R103). -/
def opcodeMap03 : List (Option Slot) :=
  [some (f1 .brk), some (f2 .oraIzx), none, none, some (f2 .nopZp04), some (f2 .oraZp), some (f2 .aslZp), none,
   some (f1 .php), some (f2 .oraImm), some (f1 .aslAcc), none, some (f3 .nopAbs0C), some (f3 .oraAbs),
   some (f3 .aslAbs), none] ++
  [some (f2 .bpl), some (f2 .oraIzy), none, none, some (f2 .nopZpx14), some (f2 .oraZpx), some (f2 .aslZpx), none,
   some (f1 .clc), some (f3 .oraAbsy), some (f1 .nopImp1A), none, some (f3 .nopAbsx1C), some (f3 .oraAbsx),
   some (f3 .aslAbsx), none] ++
  [some (f3 .jsr), some (f2 .andIzx), none, none, some (f2 .bitZp), some (f2 .andZp), some (f2 .rolZp), none,
   some (f1 .plp), some (f2 .andImm), some (f1 .rolAcc), none, some (f3 .bitAbs), some (f3 .andAbs),
   some (f3 .rolAbs), none] ++
  [some (f2 .bmi), some (f2 .andIzy), none, none, some (f2 .nopZpx34), some (f2 .andZpx), some (f2 .rolZpx), none,
   some (f1 .sec), some (f3 .andAbsy), some (f1 .nopImp3A), none, some (f3 .nopAbsx3C), some (f3 .andAbsx),
   some (f3 .rolAbsx), none]

open Slot in
/-- R101, rows 4x to 7x. -/
def opcodeMap47 : List (Option Slot) :=
  [some (f1 .rti), some (f2 .eorIzx), none, none, some (f2 .nopZp44), some (f2 .eorZp), some (f2 .lsrZp), none,
   some (f1 .pha), some (f2 .eorImm), some (f1 .lsrAcc), none, some (f3 .jmpAbs), some (f3 .eorAbs),
   some (f3 .lsrAbs), none] ++
  [some (f2 .bvc), some (f2 .eorIzy), none, none, some (f2 .nopZpx54), some (f2 .eorZpx), some (f2 .lsrZpx), none,
   some (f1 .cli), some (f3 .eorAbsy), some (f1 .nopImp5A), none, some (f3 .nopAbsx5C), some (f3 .eorAbsx),
   some (f3 .lsrAbsx), none] ++
  [some (f1 .rts), some (f2 .adcIzx), none, none, some (f2 .nopZp64), some (f2 .adcZp), some (f2 .rorZp), none,
   some (f1 .pla), some (f2 .adcImm), some (f1 .rorAcc), none, some (f3 .jmpInd), some (f3 .adcAbs),
   some (f3 .rorAbs), none] ++
  [some (f2 .bvs), some (f2 .adcIzy), none, none, some (f2 .nopZpx74), some (f2 .adcZpx), some (f2 .rorZpx), none,
   some (f1 .sei), some (f3 .adcAbsy), some (f1 .nopImp7A), none, some (f3 .nopAbsx7C), some (f3 .adcAbsx),
   some (f3 .rorAbsx), none]

open Slot in
/-- R101, rows 8x to Bx. -/
def opcodeMap8B : List (Option Slot) :=
  [some (f2 .nopImm80), some (f2 .staIzx), some (f2 .nopImm82), none, some (f2 .styZp), some (f2 .staZp),
   some (f2 .stxZp), none, some (f1 .dey), some (f2 .nopImm89), some (f1 .txa), none, some (f3 .styAbs),
   some (f3 .staAbs), some (f3 .stxAbs), none] ++
  [some (f2 .bcc), some (f2 .staIzy), none, none, some (f2 .styZpx), some (f2 .staZpx), some (f2 .stxZpy), none,
   some (f1 .tya), some (f3 .staAbsy), some (f1 .txs), none, none, some (f3 .staAbsx), none, none] ++
  [some (f2 .ldyImm), some (f2 .ldaIzx), some (f2 .ldxImm), none, some (f2 .ldyZp), some (f2 .ldaZp),
   some (f2 .ldxZp), none, some (f1 .tay), some (f2 .ldaImm), some (f1 .tax), none, some (f3 .ldyAbs),
   some (f3 .ldaAbs), some (f3 .ldxAbs), none] ++
  [some (f2 .bcs), some (f2 .ldaIzy), none, none, some (f2 .ldyZpx), some (f2 .ldaZpx), some (f2 .ldxZpy), none,
   some (f1 .clv), some (f3 .ldaAbsy), some (f1 .tsx), none, some (f3 .ldyAbsx), some (f3 .ldaAbsx),
   some (f3 .ldxAbsy), none]

open Slot in
/-- R101, rows Cx to Fx. -/
def opcodeMapCF : List (Option Slot) :=
  [some (f2 .cpyImm), some (f2 .cmpIzx), some (f2 .nopImmC2), none, some (f2 .cpyZp), some (f2 .cmpZp),
   some (f2 .decZp), none, some (f1 .iny), some (f2 .cmpImm), some (f1 .dex), none, some (f3 .cpyAbs),
   some (f3 .cmpAbs), some (f3 .decAbs), none] ++
  [some (f2 .bne), some (f2 .cmpIzy), none, none, some (f2 .nopZpxD4), some (f2 .cmpZpx), some (f2 .decZpx), none,
   some (f1 .cld), some (f3 .cmpAbsy), some (f1 .nopImpDA), none, some (f3 .nopAbsxDC), some (f3 .cmpAbsx),
   some (f3 .decAbsx), none] ++
  [some (f2 .cpxImm), some (f2 .sbcIzx), some (f2 .nopImmE2), none, some (f2 .cpxZp), some (f2 .sbcZp),
   some (f2 .incZp), none, some (f1 .inx), some (f2 .sbcImm), some (f1 .nop), none, some (f3 .cpxAbs),
   some (f3 .sbcAbs), some (f3 .incAbs), none] ++
  [some (f2 .beq), some (f2 .sbcIzy), none, none, some (f2 .nopZpxF4), some (f2 .sbcZpx), some (f2 .incZpx), none,
   some (f1 .sed), some (f3 .sbcAbsy), some (f1 .nopImpFA), none, some (f3 .nopAbsxFC), some (f3 .sbcAbsx),
   some (f3 .incAbsx), none]

/-- R92, R101: the 256 slots, indexed by the whole opcode byte (R102, R142), with every candidate of R104 filled. -/
def opcodeMap : List (Option Slot) := opcodeMap03 ++ opcodeMap47 ++ opcodeMap8B ++ opcodeMapCF

/-- R92, R103, R104: the opcode table of a build: the slot of the opcode, empty for a candidate outside UNOFFICIAL_NOPS. -/
def tableSlot (nops : List Byte) (op : Byte) : Option Slot :=
  if nopCandidates.contains op && !nops.contains op then none else (opcodeMap[op.toNat]?).join

/-- Why a byte string is rejected. -/
inductive Reject where
  | noBytes                   -- nothing to decode
  | unknownOpcode (op : Byte) -- R103: the opcode's slot is empty
  | truncated (op : Byte)     -- the operand bytes of R91 are missing
  deriving DecidableEq, Repr

/-- R93: the operand of a slot, read from the bytes after the opcode: `b1`, or `b2 ++ b1` (little-endian). -/
def buildInstr (op : Byte) : Slot → List Byte → Except Reject (Instr × List Byte)
  | .f1 i, rest => .ok (i, rest)
  | .f2 mk, b1 :: rest => .ok (mk b1, rest)
  | .f3 mk, b1 :: b2 :: rest => .ok (mk (hiLo b2 b1), rest)
  | .f2 _, [] => .error (.truncated op)
  | .f3 _, [] => .error (.truncated op)
  | .f3 _, [_] => .error (.truncated op)

/-- R94, R142: the instruction a byte string starts with, found from its opcode alone, and the bytes after it. -/
def decode (nops : List Byte) : List Byte → Except Reject (Instr × List Byte)
  | [] => .error .noBytes
  | op :: rest =>
    match tableSlot nops op with
    | none => .error (.unknownOpcode op)
    | some slot => buildInstr op slot rest

/-- R100, R104: the opcode byte of an instruction. -/
def opcodeOf : Instr → Byte
  | .ldaIzx _ => 0xA1
  | .ldaZp _ => 0xA5
  | .ldaImm _ => 0xA9
  | .ldaAbs _ => 0xAD
  | .ldaIzy _ => 0xB1
  | .ldaZpx _ => 0xB5
  | .ldaAbsy _ => 0xB9
  | .ldaAbsx _ => 0xBD
  | .ldxImm _ => 0xA2
  | .ldxZp _ => 0xA6
  | .ldxAbs _ => 0xAE
  | .ldxZpy _ => 0xB6
  | .ldxAbsy _ => 0xBE
  | .ldyImm _ => 0xA0
  | .ldyZp _ => 0xA4
  | .ldyAbs _ => 0xAC
  | .ldyZpx _ => 0xB4
  | .ldyAbsx _ => 0xBC
  | .staIzx _ => 0x81
  | .staZp _ => 0x85
  | .staAbs _ => 0x8D
  | .staIzy _ => 0x91
  | .staZpx _ => 0x95
  | .staAbsy _ => 0x99
  | .staAbsx _ => 0x9D
  | .stxZp _ => 0x86
  | .stxAbs _ => 0x8E
  | .stxZpy _ => 0x96
  | .styZp _ => 0x84
  | .styAbs _ => 0x8C
  | .styZpx _ => 0x94
  | .tax => 0xAA
  | .tay => 0xA8
  | .txa => 0x8A
  | .tya => 0x98
  | .tsx => 0xBA
  | .txs => 0x9A
  | .adcIzx _ => 0x61
  | .adcZp _ => 0x65
  | .adcImm _ => 0x69
  | .adcAbs _ => 0x6D
  | .adcIzy _ => 0x71
  | .adcZpx _ => 0x75
  | .adcAbsy _ => 0x79
  | .adcAbsx _ => 0x7D
  | .sbcIzx _ => 0xE1
  | .sbcZp _ => 0xE5
  | .sbcImm _ => 0xE9
  | .sbcAbs _ => 0xED
  | .sbcIzy _ => 0xF1
  | .sbcZpx _ => 0xF5
  | .sbcAbsy _ => 0xF9
  | .sbcAbsx _ => 0xFD
  | .andIzx _ => 0x21
  | .andZp _ => 0x25
  | .andImm _ => 0x29
  | .andAbs _ => 0x2D
  | .andIzy _ => 0x31
  | .andZpx _ => 0x35
  | .andAbsy _ => 0x39
  | .andAbsx _ => 0x3D
  | .oraIzx _ => 0x01
  | .oraZp _ => 0x05
  | .oraImm _ => 0x09
  | .oraAbs _ => 0x0D
  | .oraIzy _ => 0x11
  | .oraZpx _ => 0x15
  | .oraAbsy _ => 0x19
  | .oraAbsx _ => 0x1D
  | .eorIzx _ => 0x41
  | .eorZp _ => 0x45
  | .eorImm _ => 0x49
  | .eorAbs _ => 0x4D
  | .eorIzy _ => 0x51
  | .eorZpx _ => 0x55
  | .eorAbsy _ => 0x59
  | .eorAbsx _ => 0x5D
  | .cmpIzx _ => 0xC1
  | .cmpZp _ => 0xC5
  | .cmpImm _ => 0xC9
  | .cmpAbs _ => 0xCD
  | .cmpIzy _ => 0xD1
  | .cmpZpx _ => 0xD5
  | .cmpAbsy _ => 0xD9
  | .cmpAbsx _ => 0xDD
  | .cpxImm _ => 0xE0
  | .cpxZp _ => 0xE4
  | .cpxAbs _ => 0xEC
  | .cpyImm _ => 0xC0
  | .cpyZp _ => 0xC4
  | .cpyAbs _ => 0xCC
  | .bitZp _ => 0x24
  | .bitAbs _ => 0x2C
  | .incZp _ => 0xE6
  | .incAbs _ => 0xEE
  | .incZpx _ => 0xF6
  | .incAbsx _ => 0xFE
  | .decZp _ => 0xC6
  | .decAbs _ => 0xCE
  | .decZpx _ => 0xD6
  | .decAbsx _ => 0xDE
  | .inx => 0xE8
  | .iny => 0xC8
  | .dex => 0xCA
  | .dey => 0x88
  | .aslZp _ => 0x06
  | .aslAcc => 0x0A
  | .aslAbs _ => 0x0E
  | .aslZpx _ => 0x16
  | .aslAbsx _ => 0x1E
  | .lsrZp _ => 0x46
  | .lsrAcc => 0x4A
  | .lsrAbs _ => 0x4E
  | .lsrZpx _ => 0x56
  | .lsrAbsx _ => 0x5E
  | .rolZp _ => 0x26
  | .rolAcc => 0x2A
  | .rolAbs _ => 0x2E
  | .rolZpx _ => 0x36
  | .rolAbsx _ => 0x3E
  | .rorZp _ => 0x66
  | .rorAcc => 0x6A
  | .rorAbs _ => 0x6E
  | .rorZpx _ => 0x76
  | .rorAbsx _ => 0x7E
  | .bpl _ => 0x10
  | .bmi _ => 0x30
  | .bvc _ => 0x50
  | .bvs _ => 0x70
  | .bcc _ => 0x90
  | .bcs _ => 0xB0
  | .bne _ => 0xD0
  | .beq _ => 0xF0
  | .jmpAbs _ => 0x4C
  | .jmpInd _ => 0x6C
  | .jsr _ => 0x20
  | .rts => 0x60
  | .pha => 0x48
  | .php => 0x08
  | .pla => 0x68
  | .plp => 0x28
  | .clc => 0x18
  | .sec => 0x38
  | .cli => 0x58
  | .sei => 0x78
  | .clv => 0xB8
  | .cld => 0xD8
  | .sed => 0xF8
  | .nop => 0xEA
  | .nopZp04 _ => 0x04
  | .nopAbs0C _ => 0x0C
  | .nopZpx14 _ => 0x14
  | .nopImp1A => 0x1A
  | .nopAbsx1C _ => 0x1C
  | .nopZpx34 _ => 0x34
  | .nopImp3A => 0x3A
  | .nopAbsx3C _ => 0x3C
  | .nopZp44 _ => 0x44
  | .nopZpx54 _ => 0x54
  | .nopImp5A => 0x5A
  | .nopAbsx5C _ => 0x5C
  | .nopZp64 _ => 0x64
  | .nopZpx74 _ => 0x74
  | .nopImp7A => 0x7A
  | .nopAbsx7C _ => 0x7C
  | .nopImm80 _ => 0x80
  | .nopImm82 _ => 0x82
  | .nopImm89 _ => 0x89
  | .nopImmC2 _ => 0xC2
  | .nopZpxD4 _ => 0xD4
  | .nopImpDA => 0xDA
  | .nopAbsxDC _ => 0xDC
  | .nopImmE2 _ => 0xE2
  | .nopZpxF4 _ => 0xF4
  | .nopImpFA => 0xFA
  | .nopAbsxFC _ => 0xFC
  | .brk => 0x00
  | .rti => 0x40

/-- R91, R93: the operand bytes of an instruction, in increasing address order. -/
def operandBytesOf : Instr → List Byte
  | .tax | .tay | .txa | .tya | .tsx | .txs | .inx | .iny | .dex | .dey | .aslAcc | .lsrAcc | .rolAcc | .rorAcc
  | .rts | .pha | .php | .pla | .plp | .clc | .sec | .cli | .sei | .clv | .cld | .sed | .nop | .nopImp1A | .nopImp3A
  | .nopImp5A | .nopImp7A | .nopImpDA | .nopImpFA | .brk | .rti => []
  | .ldaIzx n | .ldaZp n | .ldaImm n | .ldaIzy n | .ldaZpx n | .ldxImm n | .ldxZp n | .ldxZpy n | .ldyImm n
  | .ldyZp n | .ldyZpx n | .staIzx n | .staZp n | .staIzy n | .staZpx n | .stxZp n | .stxZpy n | .styZp n | .styZpx n
  | .adcIzx n | .adcZp n | .adcImm n | .adcIzy n | .adcZpx n | .sbcIzx n | .sbcZp n | .sbcImm n | .sbcIzy n
  | .sbcZpx n | .andIzx n | .andZp n | .andImm n | .andIzy n | .andZpx n | .oraIzx n | .oraZp n | .oraImm n
  | .oraIzy n | .oraZpx n | .eorIzx n | .eorZp n | .eorImm n | .eorIzy n | .eorZpx n | .cmpIzx n | .cmpZp n
  | .cmpImm n | .cmpIzy n | .cmpZpx n | .cpxImm n | .cpxZp n | .cpyImm n | .cpyZp n | .bitZp n | .incZp n | .incZpx n
  | .decZp n | .decZpx n | .aslZp n | .aslZpx n | .lsrZp n | .lsrZpx n | .rolZp n | .rolZpx n | .rorZp n | .rorZpx n
  | .bpl n | .bmi n | .bvc n | .bvs n | .bcc n | .bcs n | .bne n | .beq n | .nopZp04 n | .nopZpx14 n | .nopZpx34 n
  | .nopZp44 n | .nopZpx54 n | .nopZp64 n | .nopZpx74 n | .nopImm80 n | .nopImm82 n | .nopImm89 n | .nopImmC2 n
  | .nopZpxD4 n | .nopImmE2 n | .nopZpxF4 n => [n]
  | .ldaAbs w | .ldaAbsy w | .ldaAbsx w | .ldxAbs w | .ldxAbsy w | .ldyAbs w | .ldyAbsx w | .staAbs w | .staAbsy w
  | .staAbsx w | .stxAbs w | .styAbs w | .adcAbs w | .adcAbsy w | .adcAbsx w | .sbcAbs w | .sbcAbsy w | .sbcAbsx w
  | .andAbs w | .andAbsy w | .andAbsx w | .oraAbs w | .oraAbsy w | .oraAbsx w | .eorAbs w | .eorAbsy w | .eorAbsx w
  | .cmpAbs w | .cmpAbsy w | .cmpAbsx w | .cpxAbs w | .cpyAbs w | .bitAbs w | .incAbs w | .incAbsx w | .decAbs w
  | .decAbsx w | .aslAbs w | .aslAbsx w | .lsrAbs w | .lsrAbsx w | .rolAbs w | .rolAbsx w | .rorAbs w | .rorAbsx w
  | .jmpAbs w | .jmpInd w | .jsr w | .nopAbs0C w | .nopAbsx1C w | .nopAbsx3C w | .nopAbsx5C w | .nopAbsx7C w
  | .nopAbsxDC w | .nopAbsxFC w => [lowByte w, highByte w]

/-- R90, R91: the bytes of an instruction. BRK's padding byte is not among them: its effect consumes it (R95). -/
def encode (i : Instr) : List Byte := opcodeOf i :: operandBytesOf i

/-- R91: how many operand bytes a mode's resolver consumes. -/
def modeOperandBytes : Mode → Nat
  | .imp | .acc => 0
  | .imm | .zp | .zpx | .zpy | .izx | .izy | .rel => 1
  | .abs | .absx | .absy | .ind => 2

/-- R100, R104: the descriptor of an instruction: mnemonic, mode, length, base cycles, `pageCrossExtra`, `branchExtra`. -/
def descriptorOf : Instr → Descriptor
  | .ldaIzx _ => ⟨.lda, .izx, 2, 6, false, false⟩
  | .ldaZp _ => ⟨.lda, .zp, 2, 3, false, false⟩
  | .ldaImm _ => ⟨.lda, .imm, 2, 2, false, false⟩
  | .ldaAbs _ => ⟨.lda, .abs, 3, 4, false, false⟩
  | .ldaIzy _ => ⟨.lda, .izy, 2, 5, true, false⟩
  | .ldaZpx _ => ⟨.lda, .zpx, 2, 4, false, false⟩
  | .ldaAbsy _ => ⟨.lda, .absy, 3, 4, true, false⟩
  | .ldaAbsx _ => ⟨.lda, .absx, 3, 4, true, false⟩
  | .ldxImm _ => ⟨.ldx, .imm, 2, 2, false, false⟩
  | .ldxZp _ => ⟨.ldx, .zp, 2, 3, false, false⟩
  | .ldxAbs _ => ⟨.ldx, .abs, 3, 4, false, false⟩
  | .ldxZpy _ => ⟨.ldx, .zpy, 2, 4, false, false⟩
  | .ldxAbsy _ => ⟨.ldx, .absy, 3, 4, true, false⟩
  | .ldyImm _ => ⟨.ldy, .imm, 2, 2, false, false⟩
  | .ldyZp _ => ⟨.ldy, .zp, 2, 3, false, false⟩
  | .ldyAbs _ => ⟨.ldy, .abs, 3, 4, false, false⟩
  | .ldyZpx _ => ⟨.ldy, .zpx, 2, 4, false, false⟩
  | .ldyAbsx _ => ⟨.ldy, .absx, 3, 4, true, false⟩
  | .staIzx _ => ⟨.sta, .izx, 2, 6, false, false⟩
  | .staZp _ => ⟨.sta, .zp, 2, 3, false, false⟩
  | .staAbs _ => ⟨.sta, .abs, 3, 4, false, false⟩
  | .staIzy _ => ⟨.sta, .izy, 2, 6, false, false⟩
  | .staZpx _ => ⟨.sta, .zpx, 2, 4, false, false⟩
  | .staAbsy _ => ⟨.sta, .absy, 3, 5, false, false⟩
  | .staAbsx _ => ⟨.sta, .absx, 3, 5, false, false⟩
  | .stxZp _ => ⟨.stx, .zp, 2, 3, false, false⟩
  | .stxAbs _ => ⟨.stx, .abs, 3, 4, false, false⟩
  | .stxZpy _ => ⟨.stx, .zpy, 2, 4, false, false⟩
  | .styZp _ => ⟨.sty, .zp, 2, 3, false, false⟩
  | .styAbs _ => ⟨.sty, .abs, 3, 4, false, false⟩
  | .styZpx _ => ⟨.sty, .zpx, 2, 4, false, false⟩
  | .tax => ⟨.tax, .imp, 1, 2, false, false⟩
  | .tay => ⟨.tay, .imp, 1, 2, false, false⟩
  | .txa => ⟨.txa, .imp, 1, 2, false, false⟩
  | .tya => ⟨.tya, .imp, 1, 2, false, false⟩
  | .tsx => ⟨.tsx, .imp, 1, 2, false, false⟩
  | .txs => ⟨.txs, .imp, 1, 2, false, false⟩
  | .adcIzx _ => ⟨.adc, .izx, 2, 6, false, false⟩
  | .adcZp _ => ⟨.adc, .zp, 2, 3, false, false⟩
  | .adcImm _ => ⟨.adc, .imm, 2, 2, false, false⟩
  | .adcAbs _ => ⟨.adc, .abs, 3, 4, false, false⟩
  | .adcIzy _ => ⟨.adc, .izy, 2, 5, true, false⟩
  | .adcZpx _ => ⟨.adc, .zpx, 2, 4, false, false⟩
  | .adcAbsy _ => ⟨.adc, .absy, 3, 4, true, false⟩
  | .adcAbsx _ => ⟨.adc, .absx, 3, 4, true, false⟩
  | .sbcIzx _ => ⟨.sbc, .izx, 2, 6, false, false⟩
  | .sbcZp _ => ⟨.sbc, .zp, 2, 3, false, false⟩
  | .sbcImm _ => ⟨.sbc, .imm, 2, 2, false, false⟩
  | .sbcAbs _ => ⟨.sbc, .abs, 3, 4, false, false⟩
  | .sbcIzy _ => ⟨.sbc, .izy, 2, 5, true, false⟩
  | .sbcZpx _ => ⟨.sbc, .zpx, 2, 4, false, false⟩
  | .sbcAbsy _ => ⟨.sbc, .absy, 3, 4, true, false⟩
  | .sbcAbsx _ => ⟨.sbc, .absx, 3, 4, true, false⟩
  | .andIzx _ => ⟨.and, .izx, 2, 6, false, false⟩
  | .andZp _ => ⟨.and, .zp, 2, 3, false, false⟩
  | .andImm _ => ⟨.and, .imm, 2, 2, false, false⟩
  | .andAbs _ => ⟨.and, .abs, 3, 4, false, false⟩
  | .andIzy _ => ⟨.and, .izy, 2, 5, true, false⟩
  | .andZpx _ => ⟨.and, .zpx, 2, 4, false, false⟩
  | .andAbsy _ => ⟨.and, .absy, 3, 4, true, false⟩
  | .andAbsx _ => ⟨.and, .absx, 3, 4, true, false⟩
  | .oraIzx _ => ⟨.ora, .izx, 2, 6, false, false⟩
  | .oraZp _ => ⟨.ora, .zp, 2, 3, false, false⟩
  | .oraImm _ => ⟨.ora, .imm, 2, 2, false, false⟩
  | .oraAbs _ => ⟨.ora, .abs, 3, 4, false, false⟩
  | .oraIzy _ => ⟨.ora, .izy, 2, 5, true, false⟩
  | .oraZpx _ => ⟨.ora, .zpx, 2, 4, false, false⟩
  | .oraAbsy _ => ⟨.ora, .absy, 3, 4, true, false⟩
  | .oraAbsx _ => ⟨.ora, .absx, 3, 4, true, false⟩
  | .eorIzx _ => ⟨.eor, .izx, 2, 6, false, false⟩
  | .eorZp _ => ⟨.eor, .zp, 2, 3, false, false⟩
  | .eorImm _ => ⟨.eor, .imm, 2, 2, false, false⟩
  | .eorAbs _ => ⟨.eor, .abs, 3, 4, false, false⟩
  | .eorIzy _ => ⟨.eor, .izy, 2, 5, true, false⟩
  | .eorZpx _ => ⟨.eor, .zpx, 2, 4, false, false⟩
  | .eorAbsy _ => ⟨.eor, .absy, 3, 4, true, false⟩
  | .eorAbsx _ => ⟨.eor, .absx, 3, 4, true, false⟩
  | .cmpIzx _ => ⟨.cmp, .izx, 2, 6, false, false⟩
  | .cmpZp _ => ⟨.cmp, .zp, 2, 3, false, false⟩
  | .cmpImm _ => ⟨.cmp, .imm, 2, 2, false, false⟩
  | .cmpAbs _ => ⟨.cmp, .abs, 3, 4, false, false⟩
  | .cmpIzy _ => ⟨.cmp, .izy, 2, 5, true, false⟩
  | .cmpZpx _ => ⟨.cmp, .zpx, 2, 4, false, false⟩
  | .cmpAbsy _ => ⟨.cmp, .absy, 3, 4, true, false⟩
  | .cmpAbsx _ => ⟨.cmp, .absx, 3, 4, true, false⟩
  | .cpxImm _ => ⟨.cpx, .imm, 2, 2, false, false⟩
  | .cpxZp _ => ⟨.cpx, .zp, 2, 3, false, false⟩
  | .cpxAbs _ => ⟨.cpx, .abs, 3, 4, false, false⟩
  | .cpyImm _ => ⟨.cpy, .imm, 2, 2, false, false⟩
  | .cpyZp _ => ⟨.cpy, .zp, 2, 3, false, false⟩
  | .cpyAbs _ => ⟨.cpy, .abs, 3, 4, false, false⟩
  | .bitZp _ => ⟨.bit, .zp, 2, 3, false, false⟩
  | .bitAbs _ => ⟨.bit, .abs, 3, 4, false, false⟩
  | .incZp _ => ⟨.inc, .zp, 2, 5, false, false⟩
  | .incAbs _ => ⟨.inc, .abs, 3, 6, false, false⟩
  | .incZpx _ => ⟨.inc, .zpx, 2, 6, false, false⟩
  | .incAbsx _ => ⟨.inc, .absx, 3, 7, false, false⟩
  | .decZp _ => ⟨.dec, .zp, 2, 5, false, false⟩
  | .decAbs _ => ⟨.dec, .abs, 3, 6, false, false⟩
  | .decZpx _ => ⟨.dec, .zpx, 2, 6, false, false⟩
  | .decAbsx _ => ⟨.dec, .absx, 3, 7, false, false⟩
  | .inx => ⟨.inx, .imp, 1, 2, false, false⟩
  | .iny => ⟨.iny, .imp, 1, 2, false, false⟩
  | .dex => ⟨.dex, .imp, 1, 2, false, false⟩
  | .dey => ⟨.dey, .imp, 1, 2, false, false⟩
  | .aslZp _ => ⟨.asl, .zp, 2, 5, false, false⟩
  | .aslAcc => ⟨.asl, .acc, 1, 2, false, false⟩
  | .aslAbs _ => ⟨.asl, .abs, 3, 6, false, false⟩
  | .aslZpx _ => ⟨.asl, .zpx, 2, 6, false, false⟩
  | .aslAbsx _ => ⟨.asl, .absx, 3, 7, false, false⟩
  | .lsrZp _ => ⟨.lsr, .zp, 2, 5, false, false⟩
  | .lsrAcc => ⟨.lsr, .acc, 1, 2, false, false⟩
  | .lsrAbs _ => ⟨.lsr, .abs, 3, 6, false, false⟩
  | .lsrZpx _ => ⟨.lsr, .zpx, 2, 6, false, false⟩
  | .lsrAbsx _ => ⟨.lsr, .absx, 3, 7, false, false⟩
  | .rolZp _ => ⟨.rol, .zp, 2, 5, false, false⟩
  | .rolAcc => ⟨.rol, .acc, 1, 2, false, false⟩
  | .rolAbs _ => ⟨.rol, .abs, 3, 6, false, false⟩
  | .rolZpx _ => ⟨.rol, .zpx, 2, 6, false, false⟩
  | .rolAbsx _ => ⟨.rol, .absx, 3, 7, false, false⟩
  | .rorZp _ => ⟨.ror, .zp, 2, 5, false, false⟩
  | .rorAcc => ⟨.ror, .acc, 1, 2, false, false⟩
  | .rorAbs _ => ⟨.ror, .abs, 3, 6, false, false⟩
  | .rorZpx _ => ⟨.ror, .zpx, 2, 6, false, false⟩
  | .rorAbsx _ => ⟨.ror, .absx, 3, 7, false, false⟩
  | .bpl _ => ⟨.bpl, .rel, 2, 2, false, true⟩
  | .bmi _ => ⟨.bmi, .rel, 2, 2, false, true⟩
  | .bvc _ => ⟨.bvc, .rel, 2, 2, false, true⟩
  | .bvs _ => ⟨.bvs, .rel, 2, 2, false, true⟩
  | .bcc _ => ⟨.bcc, .rel, 2, 2, false, true⟩
  | .bcs _ => ⟨.bcs, .rel, 2, 2, false, true⟩
  | .bne _ => ⟨.bne, .rel, 2, 2, false, true⟩
  | .beq _ => ⟨.beq, .rel, 2, 2, false, true⟩
  | .jmpAbs _ => ⟨.jmp, .abs, 3, 3, false, false⟩
  | .jmpInd _ => ⟨.jmp, .ind, 3, 5, false, false⟩
  | .jsr _ => ⟨.jsr, .abs, 3, 6, false, false⟩
  | .rts => ⟨.rts, .imp, 1, 6, false, false⟩
  | .pha => ⟨.pha, .imp, 1, 3, false, false⟩
  | .php => ⟨.php, .imp, 1, 3, false, false⟩
  | .pla => ⟨.pla, .imp, 1, 4, false, false⟩
  | .plp => ⟨.plp, .imp, 1, 4, false, false⟩
  | .clc => ⟨.clc, .imp, 1, 2, false, false⟩
  | .sec => ⟨.sec, .imp, 1, 2, false, false⟩
  | .cli => ⟨.cli, .imp, 1, 2, false, false⟩
  | .sei => ⟨.sei, .imp, 1, 2, false, false⟩
  | .clv => ⟨.clv, .imp, 1, 2, false, false⟩
  | .cld => ⟨.cld, .imp, 1, 2, false, false⟩
  | .sed => ⟨.sed, .imp, 1, 2, false, false⟩
  | .nop => ⟨.nop, .imp, 1, 2, false, false⟩
  | .nopZp04 _ => ⟨.nop, .zp, 2, 3, false, false⟩
  | .nopAbs0C _ => ⟨.nop, .abs, 3, 4, false, false⟩
  | .nopZpx14 _ => ⟨.nop, .zpx, 2, 4, false, false⟩
  | .nopImp1A => ⟨.nop, .imp, 1, 2, false, false⟩
  | .nopAbsx1C _ => ⟨.nop, .absx, 3, 4, true, false⟩
  | .nopZpx34 _ => ⟨.nop, .zpx, 2, 4, false, false⟩
  | .nopImp3A => ⟨.nop, .imp, 1, 2, false, false⟩
  | .nopAbsx3C _ => ⟨.nop, .absx, 3, 4, true, false⟩
  | .nopZp44 _ => ⟨.nop, .zp, 2, 3, false, false⟩
  | .nopZpx54 _ => ⟨.nop, .zpx, 2, 4, false, false⟩
  | .nopImp5A => ⟨.nop, .imp, 1, 2, false, false⟩
  | .nopAbsx5C _ => ⟨.nop, .absx, 3, 4, true, false⟩
  | .nopZp64 _ => ⟨.nop, .zp, 2, 3, false, false⟩
  | .nopZpx74 _ => ⟨.nop, .zpx, 2, 4, false, false⟩
  | .nopImp7A => ⟨.nop, .imp, 1, 2, false, false⟩
  | .nopAbsx7C _ => ⟨.nop, .absx, 3, 4, true, false⟩
  | .nopImm80 _ => ⟨.nop, .imm, 2, 2, false, false⟩
  | .nopImm82 _ => ⟨.nop, .imm, 2, 2, false, false⟩
  | .nopImm89 _ => ⟨.nop, .imm, 2, 2, false, false⟩
  | .nopImmC2 _ => ⟨.nop, .imm, 2, 2, false, false⟩
  | .nopZpxD4 _ => ⟨.nop, .zpx, 2, 4, false, false⟩
  | .nopImpDA => ⟨.nop, .imp, 1, 2, false, false⟩
  | .nopAbsxDC _ => ⟨.nop, .absx, 3, 4, true, false⟩
  | .nopImmE2 _ => ⟨.nop, .imm, 2, 2, false, false⟩
  | .nopZpxF4 _ => ⟨.nop, .zpx, 2, 4, false, false⟩
  | .nopImpFA => ⟨.nop, .imp, 1, 2, false, false⟩
  | .nopAbsxFC _ => ⟨.nop, .absx, 3, 4, true, false⟩
  | .brk => ⟨.brk, .imp, 1, 7, false, false⟩
  | .rti => ⟨.rti, .imp, 1, 6, false, false⟩

/-- The bytes of a table word: bit 0 is the least significant bit of the first byte; bits from `nbits` up are 0. -/
def tableWordBytes (nbits w : Nat) : List Byte :=
  let v := w % 2 ^ nbits
  [BitVec.ofNat 8 v, BitVec.ofNat 8 (v / 256), BitVec.ofNat 8 (v / 65536)]

/-- The instruction the decoder reads from a table word, in a build whose UNOFFICIAL_NOPS holds every candidate. -/
def decodeTableWord (nbits w : Nat) : Option Instr :=
  match decode nopCandidates (tableWordBytes nbits w) with
  | .ok (i, _) => some i
  | .error _ => none

end Sys2Proof
end

