-- ==== Sys2Proof/Machine/Memory.lean ====
section
/-! DEFINITION. The memory M of R60: 65536 cells, held as the list of the cells that differ from what an unlisted address
reads as. The canonical form (`Memory.wf`): addresses strictly rising and below 65536, no entry equal to the unlisted byte. -/

namespace Sys2Proof.Machine

/-- R60: M as (address, byte) pairs. -/
abbrev Memory := List Host.Cell

/-- What an unlisted address reads as. DESIGN CHOICE (log 3), unsafe: the spec makes the launch image an input (R78, D18). -/
def unlistedByte : Byte := 0x00

/-- R13 `MemRead(addr, 1)`: total, every address is readable (R61). -/
def Memory.read : Memory → Addr → Byte
  | [], _ => unlistedByte
  | (k, v) :: m, a => if k = a.toNat then v else Memory.read m a

/-- The list with the cell at `k` put in its place in the order. -/
def Memory.insert : Memory → Nat → Byte → Memory
  | [], k, v => [(k, v)]
  | (j, w) :: m, k, v => if k < j then (k, v) :: (j, w) :: m else (j, w) :: Memory.insert m k v

/-- The list without any cell at `k`. -/
def Memory.erase (m : Memory) (k : Nat) : Memory := m.filter (fun c => c.1 != k)

/-- R13 `MemWrite(addr, 1, v)`: changes exactly the addressed cell (R61). Writing the unlisted byte removes the entry. -/
def Memory.write (m : Memory) (a : Addr) (v : Byte) : Memory :=
  if v = unlistedByte then m.erase a.toNat else (m.erase a.toNat).insert a.toNat v

/-- The canonical form from address `lo` up. -/
def Memory.wfFrom : Nat → Memory → Bool
  | _, [] => true
  | lo, (k, v) :: m => decide (lo ≤ k) && decide (k < 65536) && (v != unlistedByte) && Memory.wfFrom (k + 1) m

/-- The canonical form: equal memories are equal lists. -/
def Memory.wf (m : Memory) : Bool := Memory.wfFrom 0 m

/-- R13 `Read16(a)`: a little-endian word, the address of its high byte wrapping at 65536 (R65). -/
def Memory.read16 (m : Memory) (a : Addr) : Addr := hiLo (m.read (a + 1)) (m.read a)

/-- Consecutive bytes stored from `a` up, in address order (the loader's part of R78). -/
def Memory.store : Memory → Addr → List Byte → Memory
  | m, _, [] => m
  | m, a, v :: vs => Memory.store (m.write a v) (a + 1) vs

end Sys2Proof.Machine
end

