-- ==== Sys2Proof/Machine/Launch.lean ====
section
/-! DEFINITION. The values `State.reset` holds where the spec leaves the value open: each is a value the model names, in one
log entry, and no statement rests on one. -/

namespace Sys2Proof.Machine

/-- D18. DESIGN CHOICE (log 3), unsafe: the memory at launch lists nothing. -/
def launchMemory : Memory := []

/-- R330 with no override, a0 = x0 = y0 = 0 (log 1) and p0 = 0 (log 2). DESIGN CHOICE, unsafe. -/
def launchInput : ResetInput := ⟨none, 0x00, 0x00, 0x00, 0x00⟩

/-- R8: UNOFFICIAL_NOPS (log 5) and PULL_B (log 6) in `State.reset`. DESIGN CHOICE, unsafe. -/
def launchParams : Params := ⟨nopCandidates, .keep⟩

/-- R330: PC after reset: the override, or the word at the reset vector (D7). -/
def resetPc (inp : ResetInput) (m : Memory) : Addr :=
  match inp.pcOverride with
  | some pc => pc
  | none => m.read16 Config.resetVector

/-- R330: P after reset: I and U set, the other bits from p0. -/
def resetP (inp : ResetInput) : Byte := inp.p0 ||| 0x24

end Sys2Proof.Machine
end

