-- ==== Sys2Proof/Machine/State.lean ====
section
/-! DEFINITION. The state of the core (10_state.md R30), the reasons a step can stop, and the state after reset. -/

namespace Sys2Proof.Machine

/-- R41 (D17): why `halted` was set. -/
inductive HaltReason where
  | none                       -- exactly when the core is running
  | unknownOpcode (op : Byte)  -- R301: the opcode's table slot is empty
  | executionFault             -- R302: named by the spec, raised by no rule of it
  | brk                        -- R303: `Break`
  deriving DecidableEq, Repr

/-- R30: ProcessorState and the memory. `params` is the model's own field: the OPEN parameters of R8, which no step and no
reset writes (logs 5 and 6). -/
structure State where
  a : Byte
  x : Byte
  y : Byte
  pc : Addr
  sp : Byte
  p : Byte
  cycles : Nat
  halted : Bool
  haltReason : HaltReason
  mem : Memory
  params : Params
  deriving DecidableEq, Repr

/-- The fault outcomes of a step. Every exceptional event of the core latches `halted` and ends in a next state (R300, R305),
so none is ever answered (log 10). -/
inductive Fault where
  /-- R302's class (b), an effect that throws. Raised by nobody: every effect is total (R149). Safe. -/
  | executionFault
  deriving DecidableEq, Repr

/-- The refusals of a step. -/
inductive Refusal where
  /-- An instruction without a meaning, answered by its arm of `exec` under its mnemonic. No arm answers it any more. Safe. -/
  | notModelled (mnemonic : String)
  deriving DecidableEq, Repr

/-- What a step or a meaning answers. -/
abbrev Result := Host.Outcome State Fault Refusal

/-- R45, R330: the core right after reset, over the launch memory. SP, I, U, cycles, halted and haltReason are the spec's; A,
X, Y, the other bits of P, the memory and the parameters are the model's (logs 1 to 6). -/
def State.reset : State :=
  { a := launchInput.a0
    x := launchInput.x0
    y := launchInput.y0
    pc := resetPc launchInput launchMemory
    sp := Config.resetSp
    p := resetP launchInput
    cycles := 0
    halted := false
    haltReason := .none
    mem := launchMemory
    params := launchParams }

end Sys2Proof.Machine
end

