-- ==== Sys2Proof/Machine/Flags.lean ====
section
/-! DEFINITION. The status register P (R36, R37), the flag helpers, and the results and flags of arithmetic, compare, shift
and rotate (43_arith_logic.md, 44_shift_rotate.md). -/

namespace Sys2Proof.Machine

/-- The seven flags of P (R36, C1). Bit 5, `P.U`, is hardwired to 1 and is no flag. -/
inductive Flag where
  | n | v | b | d | i | z | c
  deriving DecidableEq, Repr

/-- R36: the position of a flag in P. -/
def flagBit : Flag → Nat
  | .n => 7
  | .v => 6
  | .b => 4
  | .d => 3
  | .i => 2
  | .z => 1
  | .c => 0

/-- A byte with bit `k` set to `on`. -/
def setBit (v : Byte) (k : Nat) (on : Bool) : Byte :=
  if on then v ||| (1#8 <<< k) else v &&& ~~~(1#8 <<< k)

/-- R37: P as it reads: bit 5 is 1. -/
def State.readP (s : State) : Byte := s.p ||| 0x20

/-- R37: a write of P stores 1 into bit 5 whatever is supplied. -/
def State.writeP (v : Byte) (s : State) : State := { s with p := v ||| 0x20 }

/-- R12 `P.N`, `P.V`, …: the value of a flag. -/
def State.flag (s : State) (f : Flag) : Bool := s.p.getLsbD (flagBit f)

/-- R12 `P.f <- on`. -/
def State.setFlag (f : Flag) (on : Bool) (s : State) : State := s.writeP (setBit s.p (flagBit f) on)

/-- R16 `setZN(v)`. -/
def State.setZN (v : Byte) (s : State) : State := (s.setFlag .z (v == 0)).setFlag .n (v.getLsbD 7)

/-- The three results of R181. -/
structure Sum where
  result : Byte
  c : Bool
  v : Bool
  deriving DecidableEq, Repr

/-- R181 `AddWithCarry(a, m, cin)`: the exact sum, masked to 8 bits; C is the sum above 255; V is the same sign in, another out. -/
def addWithCarry (a m : Byte) (cin : Bool) : Sum :=
  let sum := a.toNat + m.toNat + cin.toNat
  let result := BitVec.ofNat 8 sum
  { result := result
    c := decide (sum > 255)
    v := ((a ^^^ m) &&& 0x80) == 0 && ((a ^^^ result) &&& 0x80) != 0 }

/-- R188 `Compare(r, m)`: C is the unsigned `r >= m`; Z and N are those of the difference. -/
def State.compare (r m : Byte) (s : State) : State :=
  (s.setFlag .c (decide (m.toNat ≤ r.toNat))).setZN (r - m)

/-- R221: the result of ASL and the bit shifted out. -/
def aslStep (v : Byte) (_cin : Bool) : Byte × Bool := (v <<< 1, v.getLsbD 7)

/-- R222: the result of LSR and the bit shifted out. -/
def lsrStep (v : Byte) (_cin : Bool) : Byte × Bool := (v >>> 1, v.getLsbD 0)

/-- R223: the result of ROL and the bit shifted out; the previous carry enters at bit 0. -/
def rolStep (v : Byte) (cin : Bool) : Byte × Bool := (v <<< 1 ||| (if cin then 0x01 else 0x00), v.getLsbD 7)

/-- R224: the result of ROR and the bit shifted out; the previous carry enters at bit 7. -/
def rorStep (v : Byte) (cin : Bool) : Byte × Bool := (v >>> 1 ||| (if cin then 0x80 else 0x00), v.getLsbD 0)

/-- R265, R286: the P that a pull of `v` leaves, from the P before it: N, V, D, I, Z and C from the byte, U = 1, B as PULL_B
says; bit 4 of the byte is never used. -/
def pulledP (how : PullB) (old v : Byte) : Byte :=
  match how with
  | .keep => setBit (v ||| 0x20) 4 (old.getLsbD 4)
  | .clear => setBit (v ||| 0x20) 4 false

end Sys2Proof.Machine
end

