-- ==== Sys2Proof/Machine/Ops.lean ====
section
/-! DEFINITION. The named operations over registers, memory, stack and the cycle counter; halting (R17), the two events that
halt the core (R300), the return from interrupt's pulls (R286), the reset operation (R330); and the shapes of instruction,
each the effect followed by the cycle accounting of R145 and R146. -/

namespace Sys2Proof.Machine

/-- R12 `A <- v`. -/
def State.setA (v : Byte) (s : State) : State := { s with a := v }

/-- R12 `X <- v`. -/
def State.setX (v : Byte) (s : State) : State := { s with x := v }

/-- R12 `Y <- v`. -/
def State.setY (v : Byte) (s : State) : State := { s with y := v }

/-- R12 `SP <- v`. -/
def State.setSp (v : Byte) (s : State) : State := { s with sp := v }

/-- R12 `PC <- target`. -/
def State.setPc (w : Addr) (s : State) : State := { s with pc := w }

/-- R40: `cycles` is an unbounded natural number (D8, log 9). -/
def State.addCycles (k : Nat) (s : State) : State := { s with cycles := s.cycles + k }

/-- R13 `MemRead`. -/
def State.read (s : State) (a : Addr) : Byte := s.mem.read a

/-- R13 `MemWrite`. -/
def State.write (a : Addr) (v : Byte) (s : State) : State := { s with mem := s.mem.write a v }

/-- R14 `FetchByte()`, the state it leaves: PC past the byte. The byte itself is `s.read s.pc`. -/
def State.skipByte (s : State) : State := s.setPc (s.pc + 1)

/-- R13 `Read16ZP(p)`: the high byte's address wraps inside page 0. -/
def State.read16Zp (s : State) (p : Byte) : Addr := hiLo (s.read (zext16 (p + 1))) (s.read (zext16 p))

/-- R13, R129 `Read16Bug(p)`: the high byte's address wraps inside the pointer's page: `(p & 0xFF00) | ((p + 1) & 0xFF)` is
the high byte of `p` over its low byte plus 1 modulo 256. -/
def State.read16Bug (s : State) (p : Addr) : Addr :=
  hiLo (s.read (hiLo (highByte p) (lowByte p + 1))) (s.read p)

/-- R260, R261: the address in the stack page that an SP value stands for. -/
def stackAddr (sp : Byte) : Addr := Config.stackPage + zext16 sp

/-- R260 `push(v)`. -/
def State.push (v : Byte) (s : State) : State := (s.write (stackAddr s.sp) v).setSp (s.sp - 1)

/-- R260 `push16(w)`: high byte first. -/
def State.push16 (w : Addr) (s : State) : State := (s.push (highByte w)).push (lowByte w)

/-- R261 `pull()`, the state it leaves. -/
def State.pulled (s : State) : State := s.setSp (s.sp + 1)

/-- R261 `pull()`, the byte it returns. -/
def State.pull (s : State) : Byte := s.read (stackAddr (s.sp + 1))

/-- R261 `pull16()`, the word it returns: low byte first. -/
def State.pull16 (s : State) : Addr := hiLo s.pulled.pull s.pull

/-- R17 `raise Halt(reason)`. -/
def State.raiseHalt (reason : HaltReason) (s : State) : State := { s with halted := true, haltReason := reason }

/-- R143, R301: the unknown-opcode fault: PC stays at the opcode, nothing else is written, no cycle is charged (D9). -/
def State.haltUnknown (s : State) : State := s.raiseHalt (.unknownOpcode (s.read s.pc))

/-- R285, R303, R309: the break entry, from the state whose PC is past the padding byte: PC pushed high byte first, then
P with B and U set; I set; halted with `Break`. The register's B bit is unchanged (D4). -/
def State.enterBreak (s : State) : State :=
  (((s.push16 s.pc).push (s.readP ||| 0x30)).setFlag .i true).raiseHalt .brk

/-- R265, R286: the pull of P, as PLP and RTI do it. -/
def State.pullP (s : State) : State := s.pulled.writeP (pulledP s.params.pullB s.p s.pull)

/-- R286: the return from interrupt: P, then PC low, then PC high; no 1 is added. -/
def State.returnFromInterrupt (s : State) : State := s.pullP.pulled.pulled.setPc s.pullP.pull16

/-- R330: the reset operation, in any state, halted or running. The memory and the parameters are unchanged (D6). -/
def State.applyReset (inp : ResetInput) (s : State) : State :=
  { a := inp.a0
    x := inp.x0
    y := inp.y0
    pc := resetPc inp s.mem
    sp := Config.resetSp
    p := resetP inp
    cycles := 0
    halted := false
    haltReason := .none
    mem := s.mem
    params := s.params }

/-- R145, R146: the engine's cycle accounting: the base cost, and 1 more when the descriptor says so and the index crossed. -/
def State.account (d : Descriptor) (crossed : Bool) (s : State) : State :=
  s.addCycles (d.baseCycles + (d.pageCrossExtra && crossed).toNat)

/-- The addressing result of R43, R120: the effective address and the page-crossed flag. -/
structure Resolved where
  ea : Addr
  crossed : Bool
  deriving DecidableEq, Repr

/-- R121: an implied instruction: no operand, no address. -/
def implied (d : Descriptor) (effect : State → State) (s : State) : Result :=
  .next ((effect s).account d false)

/-- R122: an instruction in immediate mode: its operand byte is the value the effect reads (log 11). -/
def immediate (d : Descriptor) (n : Byte) (effect : Byte → State → State) (s : State) : Result :=
  .next ((effect n s).account d false)

/-- R180: an instruction that reads its operand once, at the effective address. -/
def reading (d : Descriptor) (r : Resolved) (effect : Byte → State → State) (s : State) : Result :=
  .next ((effect (s.read r.ea) s).account d r.crossed)

/-- R163 to R165: a store of `v` at the effective address. -/
def storing (d : Descriptor) (r : Resolved) (v : Byte) (s : State) : Result :=
  .next ((s.write r.ea v).account d r.crossed)

/-- R66, R220: a read-modify-write: `effect` gives the new value and the flags it sets on the way; the value is written back
once, then Z and N follow it. -/
def modifying (d : Descriptor) (r : Resolved) (effect : Byte → State → Byte × State) (s : State) : Result :=
  let (v, s1) := effect (s.read r.ea) s
  .next (((s1.write r.ea v).setZN v).account d r.crossed)

/-- R220: the accumulator form of a shift or rotate. -/
def modifyingA (d : Descriptor) (effect : Byte → State → Byte × State) (s : State) : Result :=
  let (v, s1) := effect s.a s
  .next (((s1.setA v).setZN v).account d false)

end Sys2Proof.Machine
end

