-- ==== Sys2Proof/Machine/Operands.lean ====
section
/-! DEFINITION. The addressing-mode resolver (40_addressing.md): each memory mode's effective address and page-crossed flag,
from the operand the decoder has read (R141: the operand bytes are fetched before the effect runs). Immediate and relative
operands are the instruction's own byte (R122, R132). -/

namespace Sys2Proof.Machine

/-- R133: the high byte of an address changed. -/
def pageCrossed (base ea : Addr) : Bool := highByte ea != highByte base

/-- R123. -/
def zp (n : Byte) : Resolved := ⟨zext16 n, false⟩

/-- R124: wraps in page 0. -/
def zpx (n : Byte) (s : State) : Resolved := ⟨zext16 (n + s.x), false⟩

/-- R125: wraps in page 0. -/
def zpy (n : Byte) (s : State) : Resolved := ⟨zext16 (n + s.y), false⟩

/-- R126. -/
def abs16 (w : Addr) : Resolved := ⟨w, false⟩

/-- R127, R128, R131: a base plus an index register, modulo 65536, with the page crossing. -/
def indexed (base : Addr) (index : Byte) : Resolved :=
  ⟨base + zext16 index, pageCrossed base (base + zext16 index)⟩

/-- R127. -/
def absx (w : Addr) (s : State) : Resolved := indexed w s.x

/-- R128. -/
def absy (w : Addr) (s : State) : Resolved := indexed w s.y

/-- R129: the JMP-indirect mode, with the page bug. -/
def ind (w : Addr) (s : State) : Resolved := ⟨s.read16Bug w, false⟩

/-- R130: the pointer is indexed in page 0 before it is dereferenced. -/
def izx (n : Byte) (s : State) : Resolved := ⟨s.read16Zp (n + s.x), false⟩

/-- R131: the pointer is dereferenced, then indexed. -/
def izy (n : Byte) (s : State) : Resolved := indexed (s.read16Zp n) s.y

end Sys2Proof.Machine
end

