-- ==== Sys2Proof/Machine/LoadStore.lean ====
section
/-! DEFINITION. Loads, stores and register transfers (42_load_store_transfer.md). -/

namespace Sys2Proof.Machine

/-- R160: A and Z, N from the value read. -/
def loadA (v : Byte) (s : State) : State := (s.setA v).setZN v

/-- R161. -/
def loadX (v : Byte) (s : State) : State := (s.setX v).setZN v

/-- R162. -/
def loadY (v : Byte) (s : State) : State := (s.setY v).setZN v

/-- R166. -/
def transferAX (s : State) : State := loadX s.a s

/-- R167. -/
def transferAY (s : State) : State := loadY s.a s

/-- R168. -/
def transferXA (s : State) : State := loadA s.x s

/-- R169. -/
def transferYA (s : State) : State := loadA s.y s

/-- R170. -/
def transferSX (s : State) : State := loadX s.sp s

/-- R171: no flag is written. -/
def transferXS (s : State) : State := s.setSp s.x

/-- R160, `LDA ($nn,X)` A1 (R130). -/
def execLdaIzx (n : Byte) (s : State) : Result :=
  reading (descriptorOf (.ldaIzx n)) (izx n s) loadA s

/-- R160, `LDA $nn` A5 (R123). -/
def execLdaZp (n : Byte) (s : State) : Result :=
  reading (descriptorOf (.ldaZp n)) (zp n) loadA s

/-- R160, `LDA #$nn` A9 (R122). -/
def execLdaImm (n : Byte) (s : State) : Result :=
  immediate (descriptorOf (.ldaImm n)) n loadA s

/-- R160, `LDA $nnnn` AD (R126). -/
def execLdaAbs (w : Addr) (s : State) : Result :=
  reading (descriptorOf (.ldaAbs w)) (abs16 w) loadA s

/-- R160, `LDA ($nn),Y` B1 (R131). -/
def execLdaIzy (n : Byte) (s : State) : Result :=
  reading (descriptorOf (.ldaIzy n)) (izy n s) loadA s

/-- R160, `LDA $nn,X` B5 (R124). -/
def execLdaZpx (n : Byte) (s : State) : Result :=
  reading (descriptorOf (.ldaZpx n)) (zpx n s) loadA s

/-- R160, `LDA $nnnn,Y` B9 (R128). -/
def execLdaAbsy (w : Addr) (s : State) : Result :=
  reading (descriptorOf (.ldaAbsy w)) (absy w s) loadA s

/-- R160, `LDA $nnnn,X` BD (R127). -/
def execLdaAbsx (w : Addr) (s : State) : Result :=
  reading (descriptorOf (.ldaAbsx w)) (absx w s) loadA s

/-- R161, `LDX #$nn` A2 (R122). -/
def execLdxImm (n : Byte) (s : State) : Result :=
  immediate (descriptorOf (.ldxImm n)) n loadX s

/-- R161, `LDX $nn` A6 (R123). -/
def execLdxZp (n : Byte) (s : State) : Result :=
  reading (descriptorOf (.ldxZp n)) (zp n) loadX s

/-- R161, `LDX $nnnn` AE (R126). -/
def execLdxAbs (w : Addr) (s : State) : Result :=
  reading (descriptorOf (.ldxAbs w)) (abs16 w) loadX s

/-- R161, `LDX $nn,Y` B6 (R125). -/
def execLdxZpy (n : Byte) (s : State) : Result :=
  reading (descriptorOf (.ldxZpy n)) (zpy n s) loadX s

/-- R161, `LDX $nnnn,Y` BE (R128). -/
def execLdxAbsy (w : Addr) (s : State) : Result :=
  reading (descriptorOf (.ldxAbsy w)) (absy w s) loadX s

/-- R162, `LDY #$nn` A0 (R122). -/
def execLdyImm (n : Byte) (s : State) : Result :=
  immediate (descriptorOf (.ldyImm n)) n loadY s

/-- R162, `LDY $nn` A4 (R123). -/
def execLdyZp (n : Byte) (s : State) : Result :=
  reading (descriptorOf (.ldyZp n)) (zp n) loadY s

/-- R162, `LDY $nnnn` AC (R126). -/
def execLdyAbs (w : Addr) (s : State) : Result :=
  reading (descriptorOf (.ldyAbs w)) (abs16 w) loadY s

/-- R162, `LDY $nn,X` B4 (R124). -/
def execLdyZpx (n : Byte) (s : State) : Result :=
  reading (descriptorOf (.ldyZpx n)) (zpx n s) loadY s

/-- R162, `LDY $nnnn,X` BC (R127). -/
def execLdyAbsx (w : Addr) (s : State) : Result :=
  reading (descriptorOf (.ldyAbsx w)) (absx w s) loadY s

/-- R163, `STA ($nn,X)` 81 (R130). -/
def execStaIzx (n : Byte) (s : State) : Result :=
  storing (descriptorOf (.staIzx n)) (izx n s) s.a s

/-- R163, `STA $nn` 85 (R123). -/
def execStaZp (n : Byte) (s : State) : Result :=
  storing (descriptorOf (.staZp n)) (zp n) s.a s

/-- R163, `STA $nnnn` 8D (R126). -/
def execStaAbs (w : Addr) (s : State) : Result :=
  storing (descriptorOf (.staAbs w)) (abs16 w) s.a s

/-- R163, `STA ($nn),Y` 91 (R131). -/
def execStaIzy (n : Byte) (s : State) : Result :=
  storing (descriptorOf (.staIzy n)) (izy n s) s.a s

/-- R163, `STA $nn,X` 95 (R124). -/
def execStaZpx (n : Byte) (s : State) : Result :=
  storing (descriptorOf (.staZpx n)) (zpx n s) s.a s

/-- R163, `STA $nnnn,Y` 99 (R128). -/
def execStaAbsy (w : Addr) (s : State) : Result :=
  storing (descriptorOf (.staAbsy w)) (absy w s) s.a s

/-- R163, `STA $nnnn,X` 9D (R127). -/
def execStaAbsx (w : Addr) (s : State) : Result :=
  storing (descriptorOf (.staAbsx w)) (absx w s) s.a s

/-- R164, `STX $nn` 86 (R123). -/
def execStxZp (n : Byte) (s : State) : Result :=
  storing (descriptorOf (.stxZp n)) (zp n) s.x s

/-- R164, `STX $nnnn` 8E (R126). -/
def execStxAbs (w : Addr) (s : State) : Result :=
  storing (descriptorOf (.stxAbs w)) (abs16 w) s.x s

/-- R164, `STX $nn,Y` 96 (R125). -/
def execStxZpy (n : Byte) (s : State) : Result :=
  storing (descriptorOf (.stxZpy n)) (zpy n s) s.x s

/-- R165, `STY $nn` 84 (R123). -/
def execStyZp (n : Byte) (s : State) : Result :=
  storing (descriptorOf (.styZp n)) (zp n) s.y s

/-- R165, `STY $nnnn` 8C (R126). -/
def execStyAbs (w : Addr) (s : State) : Result :=
  storing (descriptorOf (.styAbs w)) (abs16 w) s.y s

/-- R165, `STY $nn,X` 94 (R124). -/
def execStyZpx (n : Byte) (s : State) : Result :=
  storing (descriptorOf (.styZpx n)) (zpx n s) s.y s

/-- R166, `TAX` AA (R121). -/
def execTax (s : State) : Result :=
  implied (descriptorOf .tax) transferAX s

/-- R167, `TAY` A8 (R121). -/
def execTay (s : State) : Result :=
  implied (descriptorOf .tay) transferAY s

/-- R168, `TXA` 8A (R121). -/
def execTxa (s : State) : Result :=
  implied (descriptorOf .txa) transferXA s

/-- R169, `TYA` 98 (R121). -/
def execTya (s : State) : Result :=
  implied (descriptorOf .tya) transferYA s

/-- R170, `TSX` BA (R121). -/
def execTsx (s : State) : Result :=
  implied (descriptorOf .tsx) transferSX s

/-- R171, `TXS` 9A (R121). -/
def execTxs (s : State) : Result :=
  implied (descriptorOf .txs) transferXS s

end Sys2Proof.Machine
end

