-- ==== Sys2Proof/Machine/Arith.lean ====
section
/-! DEFINITION. Arithmetic, logic, compare, bit test, increment and decrement (43_arith_logic.md). Decimal mode is absent:
nothing here reads P.D (R182). -/

namespace Sys2Proof.Machine

/-- R183, R184: A, C, V, Z and N from an add with carry. -/
def addToA (m : Byte) (s : State) : State :=
  let sum := addWithCarry s.a m (s.flag .c)
  (((s.setA sum.result).setFlag .c sum.c).setFlag .v sum.v).setZN sum.result

/-- R183. -/
def addA (m : Byte) (s : State) : State := addToA m s

/-- R184: add with carry of the operand's complement; the carry-in is `not borrow`. -/
def subtractA (m : Byte) (s : State) : State := addToA (~~~m) s

/-- R185. -/
def andA (m : Byte) (s : State) : State := loadA (s.a &&& m) s

/-- R186. -/
def orA (m : Byte) (s : State) : State := loadA (s.a ||| m) s

/-- R187. -/
def xorA (m : Byte) (s : State) : State := loadA (s.a ^^^ m) s

/-- R189. -/
def compareA (m : Byte) (s : State) : State := s.compare s.a m

/-- R190. -/
def compareX (m : Byte) (s : State) : State := s.compare s.x m

/-- R191. -/
def compareY (m : Byte) (s : State) : State := s.compare s.y m

/-- R192: Z from A and the operand, N and V from the operand's bits 7 and 6. -/
def bitTest (m : Byte) (s : State) : State :=
  ((s.setFlag .z ((s.a &&& m) == 0)).setFlag .n (m.getLsbD 7)).setFlag .v (m.getLsbD 6)

/-- R193: the incremented value; C and V are not written. -/
def incremented (v : Byte) (s : State) : Byte × State := (v + 1, s)

/-- R194: the decremented value; C and V are not written. -/
def decremented (v : Byte) (s : State) : Byte × State := (v - 1, s)

/-- R195. -/
def incrementX (s : State) : State := loadX (s.x + 1) s

/-- R196. -/
def incrementY (s : State) : State := loadY (s.y + 1) s

/-- R197. -/
def decrementX (s : State) : State := loadX (s.x - 1) s

/-- R198. -/
def decrementY (s : State) : State := loadY (s.y - 1) s

/-- R183, `ADC ($nn,X)` 61 (R130). -/
def execAdcIzx (n : Byte) (s : State) : Result :=
  reading (descriptorOf (.adcIzx n)) (izx n s) addA s

/-- R183, `ADC $nn` 65 (R123). -/
def execAdcZp (n : Byte) (s : State) : Result :=
  reading (descriptorOf (.adcZp n)) (zp n) addA s

/-- R183, `ADC #$nn` 69 (R122). -/
def execAdcImm (n : Byte) (s : State) : Result :=
  immediate (descriptorOf (.adcImm n)) n addA s

/-- R183, `ADC $nnnn` 6D (R126). -/
def execAdcAbs (w : Addr) (s : State) : Result :=
  reading (descriptorOf (.adcAbs w)) (abs16 w) addA s

/-- R183, `ADC ($nn),Y` 71 (R131). -/
def execAdcIzy (n : Byte) (s : State) : Result :=
  reading (descriptorOf (.adcIzy n)) (izy n s) addA s

/-- R183, `ADC $nn,X` 75 (R124). -/
def execAdcZpx (n : Byte) (s : State) : Result :=
  reading (descriptorOf (.adcZpx n)) (zpx n s) addA s

/-- R183, `ADC $nnnn,Y` 79 (R128). -/
def execAdcAbsy (w : Addr) (s : State) : Result :=
  reading (descriptorOf (.adcAbsy w)) (absy w s) addA s

/-- R183, `ADC $nnnn,X` 7D (R127). -/
def execAdcAbsx (w : Addr) (s : State) : Result :=
  reading (descriptorOf (.adcAbsx w)) (absx w s) addA s

/-- R184, `SBC ($nn,X)` E1 (R130). -/
def execSbcIzx (n : Byte) (s : State) : Result :=
  reading (descriptorOf (.sbcIzx n)) (izx n s) subtractA s

/-- R184, `SBC $nn` E5 (R123). -/
def execSbcZp (n : Byte) (s : State) : Result :=
  reading (descriptorOf (.sbcZp n)) (zp n) subtractA s

/-- R184, `SBC #$nn` E9 (R122). -/
def execSbcImm (n : Byte) (s : State) : Result :=
  immediate (descriptorOf (.sbcImm n)) n subtractA s

/-- R184, `SBC $nnnn` ED (R126). -/
def execSbcAbs (w : Addr) (s : State) : Result :=
  reading (descriptorOf (.sbcAbs w)) (abs16 w) subtractA s

/-- R184, `SBC ($nn),Y` F1 (R131). -/
def execSbcIzy (n : Byte) (s : State) : Result :=
  reading (descriptorOf (.sbcIzy n)) (izy n s) subtractA s

/-- R184, `SBC $nn,X` F5 (R124). -/
def execSbcZpx (n : Byte) (s : State) : Result :=
  reading (descriptorOf (.sbcZpx n)) (zpx n s) subtractA s

/-- R184, `SBC $nnnn,Y` F9 (R128). -/
def execSbcAbsy (w : Addr) (s : State) : Result :=
  reading (descriptorOf (.sbcAbsy w)) (absy w s) subtractA s

/-- R184, `SBC $nnnn,X` FD (R127). -/
def execSbcAbsx (w : Addr) (s : State) : Result :=
  reading (descriptorOf (.sbcAbsx w)) (absx w s) subtractA s

/-- R185, `AND ($nn,X)` 21 (R130). -/
def execAndIzx (n : Byte) (s : State) : Result :=
  reading (descriptorOf (.andIzx n)) (izx n s) andA s

/-- R185, `AND $nn` 25 (R123). -/
def execAndZp (n : Byte) (s : State) : Result :=
  reading (descriptorOf (.andZp n)) (zp n) andA s

/-- R185, `AND #$nn` 29 (R122). -/
def execAndImm (n : Byte) (s : State) : Result :=
  immediate (descriptorOf (.andImm n)) n andA s

/-- R185, `AND $nnnn` 2D (R126). -/
def execAndAbs (w : Addr) (s : State) : Result :=
  reading (descriptorOf (.andAbs w)) (abs16 w) andA s

/-- R185, `AND ($nn),Y` 31 (R131). -/
def execAndIzy (n : Byte) (s : State) : Result :=
  reading (descriptorOf (.andIzy n)) (izy n s) andA s

/-- R185, `AND $nn,X` 35 (R124). -/
def execAndZpx (n : Byte) (s : State) : Result :=
  reading (descriptorOf (.andZpx n)) (zpx n s) andA s

/-- R185, `AND $nnnn,Y` 39 (R128). -/
def execAndAbsy (w : Addr) (s : State) : Result :=
  reading (descriptorOf (.andAbsy w)) (absy w s) andA s

/-- R185, `AND $nnnn,X` 3D (R127). -/
def execAndAbsx (w : Addr) (s : State) : Result :=
  reading (descriptorOf (.andAbsx w)) (absx w s) andA s

/-- R186, `ORA ($nn,X)` 01 (R130). -/
def execOraIzx (n : Byte) (s : State) : Result :=
  reading (descriptorOf (.oraIzx n)) (izx n s) orA s

/-- R186, `ORA $nn` 05 (R123). -/
def execOraZp (n : Byte) (s : State) : Result :=
  reading (descriptorOf (.oraZp n)) (zp n) orA s

/-- R186, `ORA #$nn` 09 (R122). -/
def execOraImm (n : Byte) (s : State) : Result :=
  immediate (descriptorOf (.oraImm n)) n orA s

/-- R186, `ORA $nnnn` 0D (R126). -/
def execOraAbs (w : Addr) (s : State) : Result :=
  reading (descriptorOf (.oraAbs w)) (abs16 w) orA s

/-- R186, `ORA ($nn),Y` 11 (R131). -/
def execOraIzy (n : Byte) (s : State) : Result :=
  reading (descriptorOf (.oraIzy n)) (izy n s) orA s

/-- R186, `ORA $nn,X` 15 (R124). -/
def execOraZpx (n : Byte) (s : State) : Result :=
  reading (descriptorOf (.oraZpx n)) (zpx n s) orA s

/-- R186, `ORA $nnnn,Y` 19 (R128). -/
def execOraAbsy (w : Addr) (s : State) : Result :=
  reading (descriptorOf (.oraAbsy w)) (absy w s) orA s

/-- R186, `ORA $nnnn,X` 1D (R127). -/
def execOraAbsx (w : Addr) (s : State) : Result :=
  reading (descriptorOf (.oraAbsx w)) (absx w s) orA s

/-- R187, `EOR ($nn,X)` 41 (R130). -/
def execEorIzx (n : Byte) (s : State) : Result :=
  reading (descriptorOf (.eorIzx n)) (izx n s) xorA s

/-- R187, `EOR $nn` 45 (R123). -/
def execEorZp (n : Byte) (s : State) : Result :=
  reading (descriptorOf (.eorZp n)) (zp n) xorA s

/-- R187, `EOR #$nn` 49 (R122). -/
def execEorImm (n : Byte) (s : State) : Result :=
  immediate (descriptorOf (.eorImm n)) n xorA s

/-- R187, `EOR $nnnn` 4D (R126). -/
def execEorAbs (w : Addr) (s : State) : Result :=
  reading (descriptorOf (.eorAbs w)) (abs16 w) xorA s

/-- R187, `EOR ($nn),Y` 51 (R131). -/
def execEorIzy (n : Byte) (s : State) : Result :=
  reading (descriptorOf (.eorIzy n)) (izy n s) xorA s

/-- R187, `EOR $nn,X` 55 (R124). -/
def execEorZpx (n : Byte) (s : State) : Result :=
  reading (descriptorOf (.eorZpx n)) (zpx n s) xorA s

/-- R187, `EOR $nnnn,Y` 59 (R128). -/
def execEorAbsy (w : Addr) (s : State) : Result :=
  reading (descriptorOf (.eorAbsy w)) (absy w s) xorA s

/-- R187, `EOR $nnnn,X` 5D (R127). -/
def execEorAbsx (w : Addr) (s : State) : Result :=
  reading (descriptorOf (.eorAbsx w)) (absx w s) xorA s

/-- R189, `CMP ($nn,X)` C1 (R130). -/
def execCmpIzx (n : Byte) (s : State) : Result :=
  reading (descriptorOf (.cmpIzx n)) (izx n s) compareA s

/-- R189, `CMP $nn` C5 (R123). -/
def execCmpZp (n : Byte) (s : State) : Result :=
  reading (descriptorOf (.cmpZp n)) (zp n) compareA s

/-- R189, `CMP #$nn` C9 (R122). -/
def execCmpImm (n : Byte) (s : State) : Result :=
  immediate (descriptorOf (.cmpImm n)) n compareA s

/-- R189, `CMP $nnnn` CD (R126). -/
def execCmpAbs (w : Addr) (s : State) : Result :=
  reading (descriptorOf (.cmpAbs w)) (abs16 w) compareA s

/-- R189, `CMP ($nn),Y` D1 (R131). -/
def execCmpIzy (n : Byte) (s : State) : Result :=
  reading (descriptorOf (.cmpIzy n)) (izy n s) compareA s

/-- R189, `CMP $nn,X` D5 (R124). -/
def execCmpZpx (n : Byte) (s : State) : Result :=
  reading (descriptorOf (.cmpZpx n)) (zpx n s) compareA s

/-- R189, `CMP $nnnn,Y` D9 (R128). -/
def execCmpAbsy (w : Addr) (s : State) : Result :=
  reading (descriptorOf (.cmpAbsy w)) (absy w s) compareA s

/-- R189, `CMP $nnnn,X` DD (R127). -/
def execCmpAbsx (w : Addr) (s : State) : Result :=
  reading (descriptorOf (.cmpAbsx w)) (absx w s) compareA s

/-- R190, `CPX #$nn` E0 (R122). -/
def execCpxImm (n : Byte) (s : State) : Result :=
  immediate (descriptorOf (.cpxImm n)) n compareX s

/-- R190, `CPX $nn` E4 (R123). -/
def execCpxZp (n : Byte) (s : State) : Result :=
  reading (descriptorOf (.cpxZp n)) (zp n) compareX s

/-- R190, `CPX $nnnn` EC (R126). -/
def execCpxAbs (w : Addr) (s : State) : Result :=
  reading (descriptorOf (.cpxAbs w)) (abs16 w) compareX s

/-- R191, `CPY #$nn` C0 (R122). -/
def execCpyImm (n : Byte) (s : State) : Result :=
  immediate (descriptorOf (.cpyImm n)) n compareY s

/-- R191, `CPY $nn` C4 (R123). -/
def execCpyZp (n : Byte) (s : State) : Result :=
  reading (descriptorOf (.cpyZp n)) (zp n) compareY s

/-- R191, `CPY $nnnn` CC (R126). -/
def execCpyAbs (w : Addr) (s : State) : Result :=
  reading (descriptorOf (.cpyAbs w)) (abs16 w) compareY s

/-- R192, `BIT $nn` 24 (R123). -/
def execBitZp (n : Byte) (s : State) : Result :=
  reading (descriptorOf (.bitZp n)) (zp n) bitTest s

/-- R192, `BIT $nnnn` 2C (R126). -/
def execBitAbs (w : Addr) (s : State) : Result :=
  reading (descriptorOf (.bitAbs w)) (abs16 w) bitTest s

/-- R193, `INC $nn` E6 (R123). -/
def execIncZp (n : Byte) (s : State) : Result :=
  modifying (descriptorOf (.incZp n)) (zp n) incremented s

/-- R193, `INC $nnnn` EE (R126). -/
def execIncAbs (w : Addr) (s : State) : Result :=
  modifying (descriptorOf (.incAbs w)) (abs16 w) incremented s

/-- R193, `INC $nn,X` F6 (R124). -/
def execIncZpx (n : Byte) (s : State) : Result :=
  modifying (descriptorOf (.incZpx n)) (zpx n s) incremented s

/-- R193, `INC $nnnn,X` FE (R127). -/
def execIncAbsx (w : Addr) (s : State) : Result :=
  modifying (descriptorOf (.incAbsx w)) (absx w s) incremented s

/-- R194, `DEC $nn` C6 (R123). -/
def execDecZp (n : Byte) (s : State) : Result :=
  modifying (descriptorOf (.decZp n)) (zp n) decremented s

/-- R194, `DEC $nnnn` CE (R126). -/
def execDecAbs (w : Addr) (s : State) : Result :=
  modifying (descriptorOf (.decAbs w)) (abs16 w) decremented s

/-- R194, `DEC $nn,X` D6 (R124). -/
def execDecZpx (n : Byte) (s : State) : Result :=
  modifying (descriptorOf (.decZpx n)) (zpx n s) decremented s

/-- R194, `DEC $nnnn,X` DE (R127). -/
def execDecAbsx (w : Addr) (s : State) : Result :=
  modifying (descriptorOf (.decAbsx w)) (absx w s) decremented s

/-- R195, `INX` E8 (R121). -/
def execInx (s : State) : Result :=
  implied (descriptorOf .inx) incrementX s

/-- R196, `INY` C8 (R121). -/
def execIny (s : State) : Result :=
  implied (descriptorOf .iny) incrementY s

/-- R197, `DEX` CA (R121). -/
def execDex (s : State) : Result :=
  implied (descriptorOf .dex) decrementX s

/-- R198, `DEY` 88 (R121). -/
def execDey (s : State) : Result :=
  implied (descriptorOf .dey) decrementY s

end Sys2Proof.Machine
end

