-- ==== Sys2Proof/Machine/Shift.lean ====
section
/-! DEFINITION. Shifts and rotates (44_shift_rotate.md). -/

namespace Sys2Proof.Machine

/-- R221 to R224: the result of a shift of `v`, and C set to the bit shifted out. -/
def shifted (f : Byte → Bool → Byte × Bool) (v : Byte) (s : State) : Byte × State :=
  let (r, out) := f v (s.flag .c)
  (r, s.setFlag .c out)

/-- R221. -/
def shiftLeft (v : Byte) (s : State) : Byte × State := shifted aslStep v s

/-- R222. -/
def shiftRight (v : Byte) (s : State) : Byte × State := shifted lsrStep v s

/-- R223. -/
def rotateLeft (v : Byte) (s : State) : Byte × State := shifted rolStep v s

/-- R224. -/
def rotateRight (v : Byte) (s : State) : Byte × State := shifted rorStep v s

/-- R221, `ASL $nn` 06 (R123). -/
def execAslZp (n : Byte) (s : State) : Result :=
  modifying (descriptorOf (.aslZp n)) (zp n) shiftLeft s

/-- R221, `ASL A` 0A (R121). -/
def execAslAcc (s : State) : Result :=
  modifyingA (descriptorOf .aslAcc) shiftLeft s

/-- R221, `ASL $nnnn` 0E (R126). -/
def execAslAbs (w : Addr) (s : State) : Result :=
  modifying (descriptorOf (.aslAbs w)) (abs16 w) shiftLeft s

/-- R221, `ASL $nn,X` 16 (R124). -/
def execAslZpx (n : Byte) (s : State) : Result :=
  modifying (descriptorOf (.aslZpx n)) (zpx n s) shiftLeft s

/-- R221, `ASL $nnnn,X` 1E (R127). -/
def execAslAbsx (w : Addr) (s : State) : Result :=
  modifying (descriptorOf (.aslAbsx w)) (absx w s) shiftLeft s

/-- R222, `LSR $nn` 46 (R123). -/
def execLsrZp (n : Byte) (s : State) : Result :=
  modifying (descriptorOf (.lsrZp n)) (zp n) shiftRight s

/-- R222, `LSR A` 4A (R121). -/
def execLsrAcc (s : State) : Result :=
  modifyingA (descriptorOf .lsrAcc) shiftRight s

/-- R222, `LSR $nnnn` 4E (R126). -/
def execLsrAbs (w : Addr) (s : State) : Result :=
  modifying (descriptorOf (.lsrAbs w)) (abs16 w) shiftRight s

/-- R222, `LSR $nn,X` 56 (R124). -/
def execLsrZpx (n : Byte) (s : State) : Result :=
  modifying (descriptorOf (.lsrZpx n)) (zpx n s) shiftRight s

/-- R222, `LSR $nnnn,X` 5E (R127). -/
def execLsrAbsx (w : Addr) (s : State) : Result :=
  modifying (descriptorOf (.lsrAbsx w)) (absx w s) shiftRight s

/-- R223, `ROL $nn` 26 (R123). -/
def execRolZp (n : Byte) (s : State) : Result :=
  modifying (descriptorOf (.rolZp n)) (zp n) rotateLeft s

/-- R223, `ROL A` 2A (R121). -/
def execRolAcc (s : State) : Result :=
  modifyingA (descriptorOf .rolAcc) rotateLeft s

/-- R223, `ROL $nnnn` 2E (R126). -/
def execRolAbs (w : Addr) (s : State) : Result :=
  modifying (descriptorOf (.rolAbs w)) (abs16 w) rotateLeft s

/-- R223, `ROL $nn,X` 36 (R124). -/
def execRolZpx (n : Byte) (s : State) : Result :=
  modifying (descriptorOf (.rolZpx n)) (zpx n s) rotateLeft s

/-- R223, `ROL $nnnn,X` 3E (R127). -/
def execRolAbsx (w : Addr) (s : State) : Result :=
  modifying (descriptorOf (.rolAbsx w)) (absx w s) rotateLeft s

/-- R224, `ROR $nn` 66 (R123). -/
def execRorZp (n : Byte) (s : State) : Result :=
  modifying (descriptorOf (.rorZp n)) (zp n) rotateRight s

/-- R224, `ROR A` 6A (R121). -/
def execRorAcc (s : State) : Result :=
  modifyingA (descriptorOf .rorAcc) rotateRight s

/-- R224, `ROR $nnnn` 6E (R126). -/
def execRorAbs (w : Addr) (s : State) : Result :=
  modifying (descriptorOf (.rorAbs w)) (abs16 w) rotateRight s

/-- R224, `ROR $nn,X` 76 (R124). -/
def execRorZpx (n : Byte) (s : State) : Result :=
  modifying (descriptorOf (.rorZpx n)) (zpx n s) rotateRight s

/-- R224, `ROR $nnnn,X` 7E (R127). -/
def execRorAbsx (w : Addr) (s : State) : Result :=
  modifying (descriptorOf (.rorAbsx w)) (absx w s) rotateRight s

end Sys2Proof.Machine
end

