-- ==== Sys2Proof/Machine/Control.lean ====
section
/-! DEFINITION. Branches, jumps and subroutines (45_control_transfer.md). -/

namespace Sys2Proof.Machine

/-- R240 `BranchIf(cond)`: PC plus the signed offset, 1 cycle when taken and 1 more when the page changes. -/
def branchIf (cond : Bool) (r : Byte) (s : State) : State :=
  if cond then
    let target := s.pc + sext16 r
    (s.setPc target).addCycles (1 + (pageCrossed s.pc target).toNat)
  else s

/-- R241 to R248: a branch on a flag's value. -/
def branchOn (d : Descriptor) (f : Flag) (value : Bool) (r : Byte) (s : State) : Result :=
  .next ((branchIf (s.flag f == value) r s).account d false)

/-- R249. -/
def jumping (d : Descriptor) (r : Resolved) (s : State) : Result := .next ((s.setPc r.ea).account d r.crossed)

/-- R250: the address of the next instruction less 1 is pushed, then PC is the target. -/
def jumpToSubroutine (w : Addr) (s : State) : State := (s.push16 (s.pc - 1)).setPc w

/-- R250: JSR; its target is the operand the decoder read before the pushes (R141). -/
def calling (d : Descriptor) (w : Addr) (s : State) : Result := .next ((jumpToSubroutine w s).account d false)

/-- R251: the pulled word plus 1 is PC. -/
def returnFromSubroutine (s : State) : State := s.pulled.pulled.setPc (s.pull16 + 1)

/-- R241, `BPL $nnnn` 10 (R132). -/
def execBpl (r : Byte) (s : State) : Result :=
  branchOn (descriptorOf (.bpl r)) .n false r s

/-- R242, `BMI $nnnn` 30 (R132). -/
def execBmi (r : Byte) (s : State) : Result :=
  branchOn (descriptorOf (.bmi r)) .n true r s

/-- R243, `BVC $nnnn` 50 (R132). -/
def execBvc (r : Byte) (s : State) : Result :=
  branchOn (descriptorOf (.bvc r)) .v false r s

/-- R244, `BVS $nnnn` 70 (R132). -/
def execBvs (r : Byte) (s : State) : Result :=
  branchOn (descriptorOf (.bvs r)) .v true r s

/-- R245, `BCC $nnnn` 90 (R132). -/
def execBcc (r : Byte) (s : State) : Result :=
  branchOn (descriptorOf (.bcc r)) .c false r s

/-- R246, `BCS $nnnn` B0 (R132). -/
def execBcs (r : Byte) (s : State) : Result :=
  branchOn (descriptorOf (.bcs r)) .c true r s

/-- R247, `BNE $nnnn` D0 (R132). -/
def execBne (r : Byte) (s : State) : Result :=
  branchOn (descriptorOf (.bne r)) .z false r s

/-- R248, `BEQ $nnnn` F0 (R132). -/
def execBeq (r : Byte) (s : State) : Result :=
  branchOn (descriptorOf (.beq r)) .z true r s

/-- R249, `JMP $nnnn` 4C (R126). -/
def execJmpAbs (w : Addr) (s : State) : Result :=
  jumping (descriptorOf (.jmpAbs w)) (abs16 w) s

/-- R249, `JMP ($nnnn)` 6C (R129). -/
def execJmpInd (w : Addr) (s : State) : Result :=
  jumping (descriptorOf (.jmpInd w)) (ind w s) s

/-- R250, `JSR $nnnn` 20 (R126). -/
def execJsr (w : Addr) (s : State) : Result :=
  calling (descriptorOf (.jsr w)) w s

/-- R251, `RTS` 60 (R121). -/
def execRts (s : State) : Result :=
  implied (descriptorOf .rts) returnFromSubroutine s

end Sys2Proof.Machine
end

