-- ==== Sys2Proof/Machine/System.lean ====
section
/-! DEFINITION. Stack, flag, no-operation and system instructions (46_stack_flags_system.md). -/

namespace Sys2Proof.Machine

/-- R262. -/
def pushA (s : State) : State := s.push s.a

/-- R263: the pushed copy has B and U set; the register is unchanged. -/
def pushP (s : State) : State := s.push (s.readP ||| 0x30)

/-- R264. -/
def pullA (s : State) : State := loadA s.pull s.pulled

/-- R280, R281: nothing changes; the value a candidate NOP reads is discarded. -/
def noOperation (s : State) : State := s

/-- R281: `_ <- MemRead(ea, 1)`. -/
def discardRead (_v : Byte) (s : State) : State := s

/-- R285: the padding byte is consumed, then the break entry. -/
def softwareBreak (s : State) : State := s.skipByte.enterBreak

/-- R262, `PHA` 48 (R121). -/
def execPha (s : State) : Result :=
  implied (descriptorOf .pha) pushA s

/-- R263, `PHP` 08 (R121). -/
def execPhp (s : State) : Result :=
  implied (descriptorOf .php) pushP s

/-- R264, `PLA` 68 (R121). -/
def execPla (s : State) : Result :=
  implied (descriptorOf .pla) pullA s

/-- R265, `PLP` 28 (R121). -/
def execPlp (s : State) : Result :=
  implied (descriptorOf .plp) State.pullP s

/-- R266, `CLC` 18 (R121). -/
def execClc (s : State) : Result :=
  implied (descriptorOf .clc) (State.setFlag .c false) s

/-- R267, `SEC` 38 (R121). -/
def execSec (s : State) : Result :=
  implied (descriptorOf .sec) (State.setFlag .c true) s

/-- R268, `CLI` 58 (R121). -/
def execCli (s : State) : Result :=
  implied (descriptorOf .cli) (State.setFlag .i false) s

/-- R269, `SEI` 78 (R121). -/
def execSei (s : State) : Result :=
  implied (descriptorOf .sei) (State.setFlag .i true) s

/-- R270, `CLV` B8 (R121). -/
def execClv (s : State) : Result :=
  implied (descriptorOf .clv) (State.setFlag .v false) s

/-- R271, `CLD` D8 (R121). -/
def execCld (s : State) : Result :=
  implied (descriptorOf .cld) (State.setFlag .d false) s

/-- R272, `SED` F8 (R121). -/
def execSed (s : State) : Result :=
  implied (descriptorOf .sed) (State.setFlag .d true) s

/-- R280, `NOP` EA (R121). -/
def execNop (s : State) : Result :=
  implied (descriptorOf .nop) noOperation s

/-- R281, `NOP $nn` 04 (R123). -/
def execNopZp04 (n : Byte) (s : State) : Result :=
  reading (descriptorOf (.nopZp04 n)) (zp n) discardRead s

/-- R281, `NOP $nnnn` 0C (R126). -/
def execNopAbs0C (w : Addr) (s : State) : Result :=
  reading (descriptorOf (.nopAbs0C w)) (abs16 w) discardRead s

/-- R281, `NOP $nn,X` 14 (R124). -/
def execNopZpx14 (n : Byte) (s : State) : Result :=
  reading (descriptorOf (.nopZpx14 n)) (zpx n s) discardRead s

/-- R281, `NOP` 1A (R121). -/
def execNopImp1A (s : State) : Result :=
  implied (descriptorOf .nopImp1A) noOperation s

/-- R281, `NOP $nnnn,X` 1C (R127). -/
def execNopAbsx1C (w : Addr) (s : State) : Result :=
  reading (descriptorOf (.nopAbsx1C w)) (absx w s) discardRead s

/-- R281, `NOP $nn,X` 34 (R124). -/
def execNopZpx34 (n : Byte) (s : State) : Result :=
  reading (descriptorOf (.nopZpx34 n)) (zpx n s) discardRead s

/-- R281, `NOP` 3A (R121). -/
def execNopImp3A (s : State) : Result :=
  implied (descriptorOf .nopImp3A) noOperation s

/-- R281, `NOP $nnnn,X` 3C (R127). -/
def execNopAbsx3C (w : Addr) (s : State) : Result :=
  reading (descriptorOf (.nopAbsx3C w)) (absx w s) discardRead s

/-- R281, `NOP $nn` 44 (R123). -/
def execNopZp44 (n : Byte) (s : State) : Result :=
  reading (descriptorOf (.nopZp44 n)) (zp n) discardRead s

/-- R281, `NOP $nn,X` 54 (R124). -/
def execNopZpx54 (n : Byte) (s : State) : Result :=
  reading (descriptorOf (.nopZpx54 n)) (zpx n s) discardRead s

/-- R281, `NOP` 5A (R121). -/
def execNopImp5A (s : State) : Result :=
  implied (descriptorOf .nopImp5A) noOperation s

/-- R281, `NOP $nnnn,X` 5C (R127). -/
def execNopAbsx5C (w : Addr) (s : State) : Result :=
  reading (descriptorOf (.nopAbsx5C w)) (absx w s) discardRead s

/-- R281, `NOP $nn` 64 (R123). -/
def execNopZp64 (n : Byte) (s : State) : Result :=
  reading (descriptorOf (.nopZp64 n)) (zp n) discardRead s

/-- R281, `NOP $nn,X` 74 (R124). -/
def execNopZpx74 (n : Byte) (s : State) : Result :=
  reading (descriptorOf (.nopZpx74 n)) (zpx n s) discardRead s

/-- R281, `NOP` 7A (R121). -/
def execNopImp7A (s : State) : Result :=
  implied (descriptorOf .nopImp7A) noOperation s

/-- R281, `NOP $nnnn,X` 7C (R127). -/
def execNopAbsx7C (w : Addr) (s : State) : Result :=
  reading (descriptorOf (.nopAbsx7C w)) (absx w s) discardRead s

/-- R281, `NOP #$nn` 80 (R122). -/
def execNopImm80 (n : Byte) (s : State) : Result :=
  immediate (descriptorOf (.nopImm80 n)) n discardRead s

/-- R281, `NOP #$nn` 82 (R122). -/
def execNopImm82 (n : Byte) (s : State) : Result :=
  immediate (descriptorOf (.nopImm82 n)) n discardRead s

/-- R281, `NOP #$nn` 89 (R122). -/
def execNopImm89 (n : Byte) (s : State) : Result :=
  immediate (descriptorOf (.nopImm89 n)) n discardRead s

/-- R281, `NOP #$nn` C2 (R122). -/
def execNopImmC2 (n : Byte) (s : State) : Result :=
  immediate (descriptorOf (.nopImmC2 n)) n discardRead s

/-- R281, `NOP $nn,X` D4 (R124). -/
def execNopZpxD4 (n : Byte) (s : State) : Result :=
  reading (descriptorOf (.nopZpxD4 n)) (zpx n s) discardRead s

/-- R281, `NOP` DA (R121). -/
def execNopImpDA (s : State) : Result :=
  implied (descriptorOf .nopImpDA) noOperation s

/-- R281, `NOP $nnnn,X` DC (R127). -/
def execNopAbsxDC (w : Addr) (s : State) : Result :=
  reading (descriptorOf (.nopAbsxDC w)) (absx w s) discardRead s

/-- R281, `NOP #$nn` E2 (R122). -/
def execNopImmE2 (n : Byte) (s : State) : Result :=
  immediate (descriptorOf (.nopImmE2 n)) n discardRead s

/-- R281, `NOP $nn,X` F4 (R124). -/
def execNopZpxF4 (n : Byte) (s : State) : Result :=
  reading (descriptorOf (.nopZpxF4 n)) (zpx n s) discardRead s

/-- R281, `NOP` FA (R121). -/
def execNopImpFA (s : State) : Result :=
  implied (descriptorOf .nopImpFA) noOperation s

/-- R281, `NOP $nnnn,X` FC (R127). -/
def execNopAbsxFC (w : Addr) (s : State) : Result :=
  reading (descriptorOf (.nopAbsxFC w)) (absx w s) discardRead s

/-- R285, `BRK` 00 (R121). -/
def execBrk (s : State) : Result :=
  implied (descriptorOf .brk) softwareBreak s

/-- R286, `RTI` 40 (R121). -/
def execRti (s : State) : Result :=
  implied (descriptorOf .rti) State.returnFromInterrupt s

end Sys2Proof.Machine
end

