-- ==== Sys2Proof/Machine/Dispatch.lean ====
section
/-! DEFINITION. One arm per constructor of `Instr`. `exec i s` runs the effect and the cycle accounting of `i` from the state
whose PC is past the instruction's operand bytes (R18, R141; log 11). -/

namespace Sys2Proof.Machine

def exec (i : Instr) (s : State) : Host.Outcome State Fault Refusal :=
  match i with
  | .ldaIzx n => Sys2Proof.Machine.execLdaIzx n s
  | .ldaZp n => Sys2Proof.Machine.execLdaZp n s
  | .ldaImm n => Sys2Proof.Machine.execLdaImm n s
  | .ldaAbs w => Sys2Proof.Machine.execLdaAbs w s
  | .ldaIzy n => Sys2Proof.Machine.execLdaIzy n s
  | .ldaZpx n => Sys2Proof.Machine.execLdaZpx n s
  | .ldaAbsy w => Sys2Proof.Machine.execLdaAbsy w s
  | .ldaAbsx w => Sys2Proof.Machine.execLdaAbsx w s
  | .ldxImm n => Sys2Proof.Machine.execLdxImm n s
  | .ldxZp n => Sys2Proof.Machine.execLdxZp n s
  | .ldxAbs w => Sys2Proof.Machine.execLdxAbs w s
  | .ldxZpy n => Sys2Proof.Machine.execLdxZpy n s
  | .ldxAbsy w => Sys2Proof.Machine.execLdxAbsy w s
  | .ldyImm n => Sys2Proof.Machine.execLdyImm n s
  | .ldyZp n => Sys2Proof.Machine.execLdyZp n s
  | .ldyAbs w => Sys2Proof.Machine.execLdyAbs w s
  | .ldyZpx n => Sys2Proof.Machine.execLdyZpx n s
  | .ldyAbsx w => Sys2Proof.Machine.execLdyAbsx w s
  | .staIzx n => Sys2Proof.Machine.execStaIzx n s
  | .staZp n => Sys2Proof.Machine.execStaZp n s
  | .staAbs w => Sys2Proof.Machine.execStaAbs w s
  | .staIzy n => Sys2Proof.Machine.execStaIzy n s
  | .staZpx n => Sys2Proof.Machine.execStaZpx n s
  | .staAbsy w => Sys2Proof.Machine.execStaAbsy w s
  | .staAbsx w => Sys2Proof.Machine.execStaAbsx w s
  | .stxZp n => Sys2Proof.Machine.execStxZp n s
  | .stxAbs w => Sys2Proof.Machine.execStxAbs w s
  | .stxZpy n => Sys2Proof.Machine.execStxZpy n s
  | .styZp n => Sys2Proof.Machine.execStyZp n s
  | .styAbs w => Sys2Proof.Machine.execStyAbs w s
  | .styZpx n => Sys2Proof.Machine.execStyZpx n s
  | .tax => Sys2Proof.Machine.execTax s
  | .tay => Sys2Proof.Machine.execTay s
  | .txa => Sys2Proof.Machine.execTxa s
  | .tya => Sys2Proof.Machine.execTya s
  | .tsx => Sys2Proof.Machine.execTsx s
  | .txs => Sys2Proof.Machine.execTxs s
  | .adcIzx n => Sys2Proof.Machine.execAdcIzx n s
  | .adcZp n => Sys2Proof.Machine.execAdcZp n s
  | .adcImm n => Sys2Proof.Machine.execAdcImm n s
  | .adcAbs w => Sys2Proof.Machine.execAdcAbs w s
  | .adcIzy n => Sys2Proof.Machine.execAdcIzy n s
  | .adcZpx n => Sys2Proof.Machine.execAdcZpx n s
  | .adcAbsy w => Sys2Proof.Machine.execAdcAbsy w s
  | .adcAbsx w => Sys2Proof.Machine.execAdcAbsx w s
  | .sbcIzx n => Sys2Proof.Machine.execSbcIzx n s
  | .sbcZp n => Sys2Proof.Machine.execSbcZp n s
  | .sbcImm n => Sys2Proof.Machine.execSbcImm n s
  | .sbcAbs w => Sys2Proof.Machine.execSbcAbs w s
  | .sbcIzy n => Sys2Proof.Machine.execSbcIzy n s
  | .sbcZpx n => Sys2Proof.Machine.execSbcZpx n s
  | .sbcAbsy w => Sys2Proof.Machine.execSbcAbsy w s
  | .sbcAbsx w => Sys2Proof.Machine.execSbcAbsx w s
  | .andIzx n => Sys2Proof.Machine.execAndIzx n s
  | .andZp n => Sys2Proof.Machine.execAndZp n s
  | .andImm n => Sys2Proof.Machine.execAndImm n s
  | .andAbs w => Sys2Proof.Machine.execAndAbs w s
  | .andIzy n => Sys2Proof.Machine.execAndIzy n s
  | .andZpx n => Sys2Proof.Machine.execAndZpx n s
  | .andAbsy w => Sys2Proof.Machine.execAndAbsy w s
  | .andAbsx w => Sys2Proof.Machine.execAndAbsx w s
  | .oraIzx n => Sys2Proof.Machine.execOraIzx n s
  | .oraZp n => Sys2Proof.Machine.execOraZp n s
  | .oraImm n => Sys2Proof.Machine.execOraImm n s
  | .oraAbs w => Sys2Proof.Machine.execOraAbs w s
  | .oraIzy n => Sys2Proof.Machine.execOraIzy n s
  | .oraZpx n => Sys2Proof.Machine.execOraZpx n s
  | .oraAbsy w => Sys2Proof.Machine.execOraAbsy w s
  | .oraAbsx w => Sys2Proof.Machine.execOraAbsx w s
  | .eorIzx n => Sys2Proof.Machine.execEorIzx n s
  | .eorZp n => Sys2Proof.Machine.execEorZp n s
  | .eorImm n => Sys2Proof.Machine.execEorImm n s
  | .eorAbs w => Sys2Proof.Machine.execEorAbs w s
  | .eorIzy n => Sys2Proof.Machine.execEorIzy n s
  | .eorZpx n => Sys2Proof.Machine.execEorZpx n s
  | .eorAbsy w => Sys2Proof.Machine.execEorAbsy w s
  | .eorAbsx w => Sys2Proof.Machine.execEorAbsx w s
  | .cmpIzx n => Sys2Proof.Machine.execCmpIzx n s
  | .cmpZp n => Sys2Proof.Machine.execCmpZp n s
  | .cmpImm n => Sys2Proof.Machine.execCmpImm n s
  | .cmpAbs w => Sys2Proof.Machine.execCmpAbs w s
  | .cmpIzy n => Sys2Proof.Machine.execCmpIzy n s
  | .cmpZpx n => Sys2Proof.Machine.execCmpZpx n s
  | .cmpAbsy w => Sys2Proof.Machine.execCmpAbsy w s
  | .cmpAbsx w => Sys2Proof.Machine.execCmpAbsx w s
  | .cpxImm n => Sys2Proof.Machine.execCpxImm n s
  | .cpxZp n => Sys2Proof.Machine.execCpxZp n s
  | .cpxAbs w => Sys2Proof.Machine.execCpxAbs w s
  | .cpyImm n => Sys2Proof.Machine.execCpyImm n s
  | .cpyZp n => Sys2Proof.Machine.execCpyZp n s
  | .cpyAbs w => Sys2Proof.Machine.execCpyAbs w s
  | .bitZp n => Sys2Proof.Machine.execBitZp n s
  | .bitAbs w => Sys2Proof.Machine.execBitAbs w s
  | .incZp n => Sys2Proof.Machine.execIncZp n s
  | .incAbs w => Sys2Proof.Machine.execIncAbs w s
  | .incZpx n => Sys2Proof.Machine.execIncZpx n s
  | .incAbsx w => Sys2Proof.Machine.execIncAbsx w s
  | .decZp n => Sys2Proof.Machine.execDecZp n s
  | .decAbs w => Sys2Proof.Machine.execDecAbs w s
  | .decZpx n => Sys2Proof.Machine.execDecZpx n s
  | .decAbsx w => Sys2Proof.Machine.execDecAbsx w s
  | .inx => Sys2Proof.Machine.execInx s
  | .iny => Sys2Proof.Machine.execIny s
  | .dex => Sys2Proof.Machine.execDex s
  | .dey => Sys2Proof.Machine.execDey s
  | .aslZp n => Sys2Proof.Machine.execAslZp n s
  | .aslAcc => Sys2Proof.Machine.execAslAcc s
  | .aslAbs w => Sys2Proof.Machine.execAslAbs w s
  | .aslZpx n => Sys2Proof.Machine.execAslZpx n s
  | .aslAbsx w => Sys2Proof.Machine.execAslAbsx w s
  | .lsrZp n => Sys2Proof.Machine.execLsrZp n s
  | .lsrAcc => Sys2Proof.Machine.execLsrAcc s
  | .lsrAbs w => Sys2Proof.Machine.execLsrAbs w s
  | .lsrZpx n => Sys2Proof.Machine.execLsrZpx n s
  | .lsrAbsx w => Sys2Proof.Machine.execLsrAbsx w s
  | .rolZp n => Sys2Proof.Machine.execRolZp n s
  | .rolAcc => Sys2Proof.Machine.execRolAcc s
  | .rolAbs w => Sys2Proof.Machine.execRolAbs w s
  | .rolZpx n => Sys2Proof.Machine.execRolZpx n s
  | .rolAbsx w => Sys2Proof.Machine.execRolAbsx w s
  | .rorZp n => Sys2Proof.Machine.execRorZp n s
  | .rorAcc => Sys2Proof.Machine.execRorAcc s
  | .rorAbs w => Sys2Proof.Machine.execRorAbs w s
  | .rorZpx n => Sys2Proof.Machine.execRorZpx n s
  | .rorAbsx w => Sys2Proof.Machine.execRorAbsx w s
  | .bpl r => Sys2Proof.Machine.execBpl r s
  | .bmi r => Sys2Proof.Machine.execBmi r s
  | .bvc r => Sys2Proof.Machine.execBvc r s
  | .bvs r => Sys2Proof.Machine.execBvs r s
  | .bcc r => Sys2Proof.Machine.execBcc r s
  | .bcs r => Sys2Proof.Machine.execBcs r s
  | .bne r => Sys2Proof.Machine.execBne r s
  | .beq r => Sys2Proof.Machine.execBeq r s
  | .jmpAbs w => Sys2Proof.Machine.execJmpAbs w s
  | .jmpInd w => Sys2Proof.Machine.execJmpInd w s
  | .jsr w => Sys2Proof.Machine.execJsr w s
  | .rts => Sys2Proof.Machine.execRts s
  | .pha => Sys2Proof.Machine.execPha s
  | .php => Sys2Proof.Machine.execPhp s
  | .pla => Sys2Proof.Machine.execPla s
  | .plp => Sys2Proof.Machine.execPlp s
  | .clc => Sys2Proof.Machine.execClc s
  | .sec => Sys2Proof.Machine.execSec s
  | .cli => Sys2Proof.Machine.execCli s
  | .sei => Sys2Proof.Machine.execSei s
  | .clv => Sys2Proof.Machine.execClv s
  | .cld => Sys2Proof.Machine.execCld s
  | .sed => Sys2Proof.Machine.execSed s
  | .nop => Sys2Proof.Machine.execNop s
  | .nopZp04 n => Sys2Proof.Machine.execNopZp04 n s
  | .nopAbs0C w => Sys2Proof.Machine.execNopAbs0C w s
  | .nopZpx14 n => Sys2Proof.Machine.execNopZpx14 n s
  | .nopImp1A => Sys2Proof.Machine.execNopImp1A s
  | .nopAbsx1C w => Sys2Proof.Machine.execNopAbsx1C w s
  | .nopZpx34 n => Sys2Proof.Machine.execNopZpx34 n s
  | .nopImp3A => Sys2Proof.Machine.execNopImp3A s
  | .nopAbsx3C w => Sys2Proof.Machine.execNopAbsx3C w s
  | .nopZp44 n => Sys2Proof.Machine.execNopZp44 n s
  | .nopZpx54 n => Sys2Proof.Machine.execNopZpx54 n s
  | .nopImp5A => Sys2Proof.Machine.execNopImp5A s
  | .nopAbsx5C w => Sys2Proof.Machine.execNopAbsx5C w s
  | .nopZp64 n => Sys2Proof.Machine.execNopZp64 n s
  | .nopZpx74 n => Sys2Proof.Machine.execNopZpx74 n s
  | .nopImp7A => Sys2Proof.Machine.execNopImp7A s
  | .nopAbsx7C w => Sys2Proof.Machine.execNopAbsx7C w s
  | .nopImm80 n => Sys2Proof.Machine.execNopImm80 n s
  | .nopImm82 n => Sys2Proof.Machine.execNopImm82 n s
  | .nopImm89 n => Sys2Proof.Machine.execNopImm89 n s
  | .nopImmC2 n => Sys2Proof.Machine.execNopImmC2 n s
  | .nopZpxD4 n => Sys2Proof.Machine.execNopZpxD4 n s
  | .nopImpDA => Sys2Proof.Machine.execNopImpDA s
  | .nopAbsxDC w => Sys2Proof.Machine.execNopAbsxDC w s
  | .nopImmE2 n => Sys2Proof.Machine.execNopImmE2 n s
  | .nopZpxF4 n => Sys2Proof.Machine.execNopZpxF4 n s
  | .nopImpFA => Sys2Proof.Machine.execNopImpFA s
  | .nopAbsxFC w => Sys2Proof.Machine.execNopAbsxFC w s
  | .brk => Sys2Proof.Machine.execBrk s
  | .rti => Sys2Proof.Machine.execRti s

end Sys2Proof.Machine
end

