-- ==== Sys2Proof/Machine/Fetch.lean ====
section
/-! DEFINITION. What the engine does around an effect (41_engine.md R140, R141): fetching an instruction's bytes at PC, moving
PC past them, and the unknown-opcode halt; and placing an instruction where the next fetch finds it. -/

namespace Sys2Proof.Machine

/-- The three bytes from `a` up, addresses wrapping at 65536 (R62): as many as the longest instruction has (R90). -/
def State.bytesAt (s : State) (a : Addr) : List Byte := [s.read a, s.read (a + 1), s.read (a + 2)]

/-- R140 steps 1 to 3: the instruction the bytes at `a` stand for in this build's opcode table. -/
def State.instrAt (s : State) (a : Addr) : Except Reject Instr :=
  match decode s.params.unofficialNops (s.bytesAt a) with
  | .ok (i, _) => .ok i
  | .error r => .error r

/-- R35, R96, R141: how many bytes the opcode fetch and the mode's operand fetches move PC. -/
def fetchedBytes (i : Instr) : Nat := 1 + modeOperandBytes (descriptorOf i).mode

/-- R141: the state an effect sees: PC just past the instruction's operand bytes. -/
def State.pastOperands (i : Instr) (s : State) : State := s.setPc (s.pc + BitVec.ofNat 16 (fetchedBytes i))

/-- R143: what an instruction that has no descriptor does, whatever the decoder's reason. -/
def State.rejected (_why : Reject) (s : State) : State := s.haltUnknown

/-- R148: a step of a halted core. -/
def State.haltedStep (s : State) : State := s

/-- The bytes `bs` at PC, in a running core: what a program's load and the reset after it leave (log 15). -/
def State.placeAtPc (bs : List Byte) (s : State) : State :=
  { s with mem := s.mem.store s.pc bs, halted := false, haltReason := .none }

end Sys2Proof.Machine
end

