-- ==== Sys2Proof/Machine/Step.lean ====
section
/-! DEFINITION. One step of the core (R140), and the host's way of placing an instruction where the next step fetches it. -/

namespace Sys2Proof.Machine

/-- R140 `step()`: a no-op when halted; otherwise the instruction at PC runs, or the unknown opcode halts the core. -/
def step (s : State) : Host.Outcome State Fault Refusal :=
  if s.halted then .next s.haltedStep
  else
    match s.instrAt s.pc with
    | .ok i => exec i (s.pastOperands i)
    | .error why => .next (s.rejected why)

/-- `s` with the instruction whose table word is `w` stored at PC, where the next step fetches (log 15). -/
def State.withFetchWord (s : State) (nbits w : Nat) : State := s.placeAtPc (tableWordBytes nbits w)

end Sys2Proof.Machine
end

