-- ==== Sys2Proof/Machine/HostPort.lean ====
section
/-! DEFINITION. The host's operations between steps (20_memory.md, section 7): byte accessors, program load, and the listing
contract of the disassembler. Reset is `State.applyReset`. -/

namespace Sys2Proof.Machine

/-- R80 `HostRead(a)`: the address is masked to 16 bits. -/
def State.hostRead (s : State) (a : Nat) : Byte := s.read (BitVec.ofNat 16 a)

/-- R80 `HostWrite(a, v)`: the address is masked; a value outside 0..255 is rejected and changes nothing (D23). -/
def State.hostWrite (a : Nat) (v : Int) (s : State) : State :=
  if 0 ≤ v ∧ v ≤ 255 then s.write (BitVec.ofNat 16 a) (BitVec.ofInt 8 v) else s

/-- R78: a load of `bytes` at `base` that fits below 65536 replaces the memory wholesale; one that does not writes nothing.
`rest` is what the cells the load does not cover hold, an input (D18, log 16). The spec's load address is 0 to 65535; that `base` is
a natural number, and that 65536 with no bytes counts as fitting, is a DESIGN CHOICE (log 16), unsafe at that one input. -/
def State.loadProgram (rest : Memory) (base : Nat) (bytes : List Byte) (s : State) : State :=
  if base + bytes.length ≤ 65536 then { s with mem := rest.store (BitVec.ofNat 16 base) bytes } else s

/-- R81: one record of a listing: an instruction, or an unknown opcode as a one-byte data placeholder. -/
inductive Listing where
  | instr (a : Addr) (i : Instr)
  | data (a : Addr) (v : Byte)
  deriving DecidableEq, Repr

/-- R81 `disassemble(startAddress, count)`: steps by the descriptor's byte length, which for BRK is 1 (R95). -/
def State.disassemble (s : State) : Nat → Addr → List Listing
  | 0, _ => []
  | k + 1, a =>
    match s.instrAt a with
    | .ok i => .instr a i :: s.disassemble k (a + BitVec.ofNat 16 (descriptorOf i).length)
    | .error _ => .data a (s.read a) :: s.disassemble k (a + 1)

end Sys2Proof.Machine
end

