-- ==== Sys2Proof/Safety.lean ====
section
/-! DEFINITION. What counts as a good state and a safe run, in the terms the statements use. -/

namespace Sys2Proof.Machine

/-- The invariant of the core: P.U = 1 (R31, R37), `haltReason` is None exactly when the core is running (R41), class (b) never
occurs (R302), and the memory and the parameters are in canonical form. The widths of R31 are in the types. -/
structure State.Inv (s : State) : Prop where
  unused : s.p.getLsbD 5 = true
  running : s.haltReason = .none ↔ s.halted = false
  noExecutionFault : s.haltReason ≠ .executionFault
  memory : s.mem.wf = true
  parameters : paramsWf s.params = true

/-- A run of `k` steps from `s` (R79) is safe when it ends running or at a BRK (R303): no fault of R300 has stopped it. -/
def State.SafeFor (k : Nat) (s : State) : Prop :=
  ∃ t, Sys2Proof.core.run k s = .next t ∧ (t.haltReason = .none ∨ t.haltReason = .brk)

end Sys2Proof.Machine
end

