-- ==== Sys2Proof/Certificates/Slice0/Reference.lean ====
section
/-! DEFINITION. The step as the spec's pseudocode writes it, transcribed beside the model so that a statement can compare the two:
the table of R100 and R104 row by row, `FetchByte` one byte at a time (R14), the resolver by mode (R120 to R132), the effect by
mnemonic (files 42 to 46) on mathematical integers brought back to width (R10), and the engine of R140. It shares with the model
the state, the memory, `setFlag` and `setZN`; not the decoder, the operands, the descriptors, the shapes or the meanings. -/

namespace Sys2Proof.Reference

open Sys2Proof.Machine

/-- A mathematical integer brought to a byte, modulo 256. -/
def u8 (k : Int) : Byte := BitVec.ofInt 8 k

/-- A mathematical integer brought to an address, modulo 65536. -/
def u16 (k : Int) : Addr := BitVec.ofInt 16 k

/-- `hi ++ lo = hi * 256 + lo` (R11). -/
def word (hi lo : Byte) : Addr := u16 (hi.toNat * 256 + lo.toNat)

/-- R100. -/
def table1 : List (Byte × Descriptor) :=
  [(0x61, ⟨.adc, .izx, 2, 6, false, false⟩), (0x65, ⟨.adc, .zp, 2, 3, false, false⟩),
   (0x69, ⟨.adc, .imm, 2, 2, false, false⟩), (0x6D, ⟨.adc, .abs, 3, 4, false, false⟩),
   (0x71, ⟨.adc, .izy, 2, 5, true, false⟩), (0x75, ⟨.adc, .zpx, 2, 4, false, false⟩),
   (0x79, ⟨.adc, .absy, 3, 4, true, false⟩), (0x7D, ⟨.adc, .absx, 3, 4, true, false⟩),
   (0x21, ⟨.and, .izx, 2, 6, false, false⟩), (0x25, ⟨.and, .zp, 2, 3, false, false⟩),
   (0x29, ⟨.and, .imm, 2, 2, false, false⟩), (0x2D, ⟨.and, .abs, 3, 4, false, false⟩),
   (0x31, ⟨.and, .izy, 2, 5, true, false⟩), (0x35, ⟨.and, .zpx, 2, 4, false, false⟩),
   (0x39, ⟨.and, .absy, 3, 4, true, false⟩), (0x3D, ⟨.and, .absx, 3, 4, true, false⟩),
   (0x06, ⟨.asl, .zp, 2, 5, false, false⟩), (0x0A, ⟨.asl, .acc, 1, 2, false, false⟩),
   (0x0E, ⟨.asl, .abs, 3, 6, false, false⟩), (0x16, ⟨.asl, .zpx, 2, 6, false, false⟩),
   (0x1E, ⟨.asl, .absx, 3, 7, false, false⟩), (0x90, ⟨.bcc, .rel, 2, 2, false, true⟩),
   (0xB0, ⟨.bcs, .rel, 2, 2, false, true⟩), (0xF0, ⟨.beq, .rel, 2, 2, false, true⟩),
   (0x24, ⟨.bit, .zp, 2, 3, false, false⟩), (0x2C, ⟨.bit, .abs, 3, 4, false, false⟩),
   (0x30, ⟨.bmi, .rel, 2, 2, false, true⟩), (0xD0, ⟨.bne, .rel, 2, 2, false, true⟩),
   (0x10, ⟨.bpl, .rel, 2, 2, false, true⟩), (0x00, ⟨.brk, .imp, 1, 7, false, false⟩),
   (0x50, ⟨.bvc, .rel, 2, 2, false, true⟩), (0x70, ⟨.bvs, .rel, 2, 2, false, true⟩),
   (0x18, ⟨.clc, .imp, 1, 2, false, false⟩), (0xD8, ⟨.cld, .imp, 1, 2, false, false⟩),
   (0x58, ⟨.cli, .imp, 1, 2, false, false⟩), (0xB8, ⟨.clv, .imp, 1, 2, false, false⟩)]

/-- R100. -/
def table2 : List (Byte × Descriptor) :=
  [(0xC1, ⟨.cmp, .izx, 2, 6, false, false⟩), (0xC5, ⟨.cmp, .zp, 2, 3, false, false⟩),
   (0xC9, ⟨.cmp, .imm, 2, 2, false, false⟩), (0xCD, ⟨.cmp, .abs, 3, 4, false, false⟩),
   (0xD1, ⟨.cmp, .izy, 2, 5, true, false⟩), (0xD5, ⟨.cmp, .zpx, 2, 4, false, false⟩),
   (0xD9, ⟨.cmp, .absy, 3, 4, true, false⟩), (0xDD, ⟨.cmp, .absx, 3, 4, true, false⟩),
   (0xE0, ⟨.cpx, .imm, 2, 2, false, false⟩), (0xE4, ⟨.cpx, .zp, 2, 3, false, false⟩),
   (0xEC, ⟨.cpx, .abs, 3, 4, false, false⟩), (0xC0, ⟨.cpy, .imm, 2, 2, false, false⟩),
   (0xC4, ⟨.cpy, .zp, 2, 3, false, false⟩), (0xCC, ⟨.cpy, .abs, 3, 4, false, false⟩),
   (0xC6, ⟨.dec, .zp, 2, 5, false, false⟩), (0xCE, ⟨.dec, .abs, 3, 6, false, false⟩),
   (0xD6, ⟨.dec, .zpx, 2, 6, false, false⟩), (0xDE, ⟨.dec, .absx, 3, 7, false, false⟩),
   (0xCA, ⟨.dex, .imp, 1, 2, false, false⟩), (0x88, ⟨.dey, .imp, 1, 2, false, false⟩),
   (0x41, ⟨.eor, .izx, 2, 6, false, false⟩), (0x45, ⟨.eor, .zp, 2, 3, false, false⟩),
   (0x49, ⟨.eor, .imm, 2, 2, false, false⟩), (0x4D, ⟨.eor, .abs, 3, 4, false, false⟩),
   (0x51, ⟨.eor, .izy, 2, 5, true, false⟩), (0x55, ⟨.eor, .zpx, 2, 4, false, false⟩),
   (0x59, ⟨.eor, .absy, 3, 4, true, false⟩), (0x5D, ⟨.eor, .absx, 3, 4, true, false⟩),
   (0xE6, ⟨.inc, .zp, 2, 5, false, false⟩), (0xEE, ⟨.inc, .abs, 3, 6, false, false⟩),
   (0xF6, ⟨.inc, .zpx, 2, 6, false, false⟩), (0xFE, ⟨.inc, .absx, 3, 7, false, false⟩),
   (0xE8, ⟨.inx, .imp, 1, 2, false, false⟩), (0xC8, ⟨.iny, .imp, 1, 2, false, false⟩),
   (0x4C, ⟨.jmp, .abs, 3, 3, false, false⟩), (0x6C, ⟨.jmp, .ind, 3, 5, false, false⟩),
   (0x20, ⟨.jsr, .abs, 3, 6, false, false⟩)]

/-- R100. -/
def table3 : List (Byte × Descriptor) :=
  [(0xA1, ⟨.lda, .izx, 2, 6, false, false⟩), (0xA5, ⟨.lda, .zp, 2, 3, false, false⟩),
   (0xA9, ⟨.lda, .imm, 2, 2, false, false⟩), (0xAD, ⟨.lda, .abs, 3, 4, false, false⟩),
   (0xB1, ⟨.lda, .izy, 2, 5, true, false⟩), (0xB5, ⟨.lda, .zpx, 2, 4, false, false⟩),
   (0xB9, ⟨.lda, .absy, 3, 4, true, false⟩), (0xBD, ⟨.lda, .absx, 3, 4, true, false⟩),
   (0xA2, ⟨.ldx, .imm, 2, 2, false, false⟩), (0xA6, ⟨.ldx, .zp, 2, 3, false, false⟩),
   (0xAE, ⟨.ldx, .abs, 3, 4, false, false⟩), (0xB6, ⟨.ldx, .zpy, 2, 4, false, false⟩),
   (0xBE, ⟨.ldx, .absy, 3, 4, true, false⟩), (0xA0, ⟨.ldy, .imm, 2, 2, false, false⟩),
   (0xA4, ⟨.ldy, .zp, 2, 3, false, false⟩), (0xAC, ⟨.ldy, .abs, 3, 4, false, false⟩),
   (0xB4, ⟨.ldy, .zpx, 2, 4, false, false⟩), (0xBC, ⟨.ldy, .absx, 3, 4, true, false⟩),
   (0x46, ⟨.lsr, .zp, 2, 5, false, false⟩), (0x4A, ⟨.lsr, .acc, 1, 2, false, false⟩),
   (0x4E, ⟨.lsr, .abs, 3, 6, false, false⟩), (0x56, ⟨.lsr, .zpx, 2, 6, false, false⟩),
   (0x5E, ⟨.lsr, .absx, 3, 7, false, false⟩), (0xEA, ⟨.nop, .imp, 1, 2, false, false⟩),
   (0x01, ⟨.ora, .izx, 2, 6, false, false⟩), (0x05, ⟨.ora, .zp, 2, 3, false, false⟩),
   (0x09, ⟨.ora, .imm, 2, 2, false, false⟩), (0x0D, ⟨.ora, .abs, 3, 4, false, false⟩),
   (0x11, ⟨.ora, .izy, 2, 5, true, false⟩), (0x15, ⟨.ora, .zpx, 2, 4, false, false⟩),
   (0x19, ⟨.ora, .absy, 3, 4, true, false⟩), (0x1D, ⟨.ora, .absx, 3, 4, true, false⟩),
   (0x48, ⟨.pha, .imp, 1, 3, false, false⟩), (0x08, ⟨.php, .imp, 1, 3, false, false⟩),
   (0x68, ⟨.pla, .imp, 1, 4, false, false⟩), (0x28, ⟨.plp, .imp, 1, 4, false, false⟩)]

/-- R100. -/
def table4 : List (Byte × Descriptor) :=
  [(0x26, ⟨.rol, .zp, 2, 5, false, false⟩), (0x2A, ⟨.rol, .acc, 1, 2, false, false⟩),
   (0x2E, ⟨.rol, .abs, 3, 6, false, false⟩), (0x36, ⟨.rol, .zpx, 2, 6, false, false⟩),
   (0x3E, ⟨.rol, .absx, 3, 7, false, false⟩), (0x66, ⟨.ror, .zp, 2, 5, false, false⟩),
   (0x6A, ⟨.ror, .acc, 1, 2, false, false⟩), (0x6E, ⟨.ror, .abs, 3, 6, false, false⟩),
   (0x76, ⟨.ror, .zpx, 2, 6, false, false⟩), (0x7E, ⟨.ror, .absx, 3, 7, false, false⟩),
   (0x40, ⟨.rti, .imp, 1, 6, false, false⟩), (0x60, ⟨.rts, .imp, 1, 6, false, false⟩),
   (0xE1, ⟨.sbc, .izx, 2, 6, false, false⟩), (0xE5, ⟨.sbc, .zp, 2, 3, false, false⟩),
   (0xE9, ⟨.sbc, .imm, 2, 2, false, false⟩), (0xED, ⟨.sbc, .abs, 3, 4, false, false⟩),
   (0xF1, ⟨.sbc, .izy, 2, 5, true, false⟩), (0xF5, ⟨.sbc, .zpx, 2, 4, false, false⟩),
   (0xF9, ⟨.sbc, .absy, 3, 4, true, false⟩), (0xFD, ⟨.sbc, .absx, 3, 4, true, false⟩),
   (0x38, ⟨.sec, .imp, 1, 2, false, false⟩), (0xF8, ⟨.sed, .imp, 1, 2, false, false⟩),
   (0x78, ⟨.sei, .imp, 1, 2, false, false⟩), (0x81, ⟨.sta, .izx, 2, 6, false, false⟩),
   (0x85, ⟨.sta, .zp, 2, 3, false, false⟩), (0x8D, ⟨.sta, .abs, 3, 4, false, false⟩),
   (0x91, ⟨.sta, .izy, 2, 6, false, false⟩), (0x95, ⟨.sta, .zpx, 2, 4, false, false⟩),
   (0x99, ⟨.sta, .absy, 3, 5, false, false⟩), (0x9D, ⟨.sta, .absx, 3, 5, false, false⟩),
   (0x86, ⟨.stx, .zp, 2, 3, false, false⟩), (0x8E, ⟨.stx, .abs, 3, 4, false, false⟩),
   (0x96, ⟨.stx, .zpy, 2, 4, false, false⟩), (0x84, ⟨.sty, .zp, 2, 3, false, false⟩),
   (0x8C, ⟨.sty, .abs, 3, 4, false, false⟩), (0x94, ⟨.sty, .zpx, 2, 4, false, false⟩),
   (0xAA, ⟨.tax, .imp, 1, 2, false, false⟩), (0xA8, ⟨.tay, .imp, 1, 2, false, false⟩),
   (0xBA, ⟨.tsx, .imp, 1, 2, false, false⟩), (0x8A, ⟨.txa, .imp, 1, 2, false, false⟩),
   (0x9A, ⟨.txs, .imp, 1, 2, false, false⟩), (0x98, ⟨.tya, .imp, 1, 2, false, false⟩)]

/-- R104. -/
def candidates : List (Byte × Descriptor) :=
  [(0x1A, ⟨.nop, .imp, 1, 2, false, false⟩), (0x3A, ⟨.nop, .imp, 1, 2, false, false⟩),
   (0x5A, ⟨.nop, .imp, 1, 2, false, false⟩), (0x7A, ⟨.nop, .imp, 1, 2, false, false⟩),
   (0xDA, ⟨.nop, .imp, 1, 2, false, false⟩), (0xFA, ⟨.nop, .imp, 1, 2, false, false⟩),
   (0x80, ⟨.nop, .imm, 2, 2, false, false⟩), (0x82, ⟨.nop, .imm, 2, 2, false, false⟩),
   (0x89, ⟨.nop, .imm, 2, 2, false, false⟩), (0xC2, ⟨.nop, .imm, 2, 2, false, false⟩),
   (0xE2, ⟨.nop, .imm, 2, 2, false, false⟩), (0x04, ⟨.nop, .zp, 2, 3, false, false⟩),
   (0x44, ⟨.nop, .zp, 2, 3, false, false⟩), (0x64, ⟨.nop, .zp, 2, 3, false, false⟩),
   (0x14, ⟨.nop, .zpx, 2, 4, false, false⟩), (0x34, ⟨.nop, .zpx, 2, 4, false, false⟩),
   (0x54, ⟨.nop, .zpx, 2, 4, false, false⟩), (0x74, ⟨.nop, .zpx, 2, 4, false, false⟩),
   (0xD4, ⟨.nop, .zpx, 2, 4, false, false⟩), (0xF4, ⟨.nop, .zpx, 2, 4, false, false⟩),
   (0x0C, ⟨.nop, .abs, 3, 4, false, false⟩), (0x1C, ⟨.nop, .absx, 3, 4, true, false⟩),
   (0x3C, ⟨.nop, .absx, 3, 4, true, false⟩), (0x5C, ⟨.nop, .absx, 3, 4, true, false⟩),
   (0x7C, ⟨.nop, .absx, 3, 4, true, false⟩), (0xDC, ⟨.nop, .absx, 3, 4, true, false⟩),
   (0xFC, ⟨.nop, .absx, 3, 4, true, false⟩)]

/-- R92, R103: `Table[op]` of a build with these UNOFFICIAL_NOPS. -/
def lookup (nops : List Byte) (op : Byte) : Option Descriptor :=
  match (table1 ++ table2 ++ table3 ++ table4).lookup op with
  | some d => some d
  | none => if nops.contains op then candidates.lookup op else none

/-- R14 `FetchByte()`. -/
def fetchByte (s : State) : Byte × State := (s.read s.pc, { s with pc := u16 (s.pc.toNat + 1) })

/-- What a mode returns (R120): the address, for `rel` the offset, the page-crossed flag, and the state with PC moved. -/
structure Resolution where
  ea : Addr
  off : Int
  crossed : Bool
  state : State

/-- R127, R128, R131: `ea <- (base + index) mod 2^16; crossed <- (ea[15:8] != base[15:8])`. -/
def indexedBy (base : Addr) (index : Byte) (s : State) : Resolution :=
  let ea := u16 (base.toNat + index.toNat)
  ⟨ea, 0, decide (ea.toNat / 256 ≠ base.toNat / 256), s⟩

/-- `Read16ZP(p)` (R13) for a `p` already reduced modulo 256. -/
def read16Zp (s : State) (p : Nat) : Addr := word (s.read (u16 ((p + 1) % 256 : Nat))) (s.read (u16 p))

/-- R121 to R132. -/
def resolve (m : Mode) (s : State) : Resolution :=
  let (b, s1) := fetchByte s
  let (hi, s2) := fetchByte s1
  let w := word hi b
  match m with
  | .imp => ⟨0, 0, false, s⟩
  | .acc => ⟨0, 0, false, s⟩
  | .imm => ⟨s.pc, 0, false, s1⟩
  | .zp => ⟨u16 b.toNat, 0, false, s1⟩
  | .zpx => ⟨u16 ((b.toNat + s.x.toNat) % 256 : Nat), 0, false, s1⟩
  | .zpy => ⟨u16 ((b.toNat + s.y.toNat) % 256 : Nat), 0, false, s1⟩
  | .abs => ⟨w, 0, false, s2⟩
  | .absx => indexedBy w s.x s2
  | .absy => indexedBy w s.y s2
  | .ind =>
    let high := if w.toNat % 256 = 255 then u16 (w.toNat - 255) else u16 (w.toNat + 1)
    ⟨word (s.read high) (s.read w), 0, false, s2⟩
  | .izx => ⟨read16Zp s ((b.toNat + s.x.toNat) % 256), 0, false, s1⟩
  | .izy => indexedBy (read16Zp s b.toNat) s.y s1
  | .rel => ⟨0, if b.toNat < 128 then b.toNat else b.toNat - 256, false, s1⟩

/-- R260 `push(v)`. -/
def push (v : Byte) (s : State) : State :=
  { s with mem := s.mem.write (u16 (0x0100 + s.sp.toNat)) v, sp := u8 (s.sp.toNat - 1) }

/-- R260 `push16(w)`. -/
def push16 (w : Addr) (s : State) : State := push (u8 (w.toNat % 256)) (push (u8 (w.toNat / 256)) s)

/-- R261 `pull()`. -/
def pull (s : State) : Byte × State :=
  let sp := u8 (s.sp.toNat + 1)
  (s.read (u16 (0x0100 + sp.toNat)), { s with sp := sp })

/-- R261 `pull16()`. -/
def pull16 (s : State) : Addr × State :=
  let (lo, s1) := pull s
  let (hi, s2) := pull s1
  (word hi lo, s2)

/-- R265, R286: P from a pulled byte, flag by flag; `P.B` as PULL_B says. -/
def pullP (s : State) : State :=
  let (v, s1) := pull s
  let s2 := ((((((s1.setFlag .n (v.getLsbD 7)).setFlag .v (v.getLsbD 6)).setFlag .d (v.getLsbD 3)).setFlag .i
    (v.getLsbD 2)).setFlag .z (v.getLsbD 1)).setFlag .c (v.getLsbD 0))
  match s.params.pullB with
  | .keep => s2
  | .clear => s2.setFlag .b false

/-- R181, R183: A, C, V, N and Z from `A + m + C`. -/
def addCarry (m : Byte) (s : State) : State :=
  let cin : Int := if s.flag .c then 1 else 0
  let sum : Int := s.a.toNat + m.toNat + cin
  let signed : Int := s.a.toInt + m.toInt + cin
  let r := u8 sum
  ((({ s with a := r }).setFlag .c (decide (255 < sum))).setFlag .v (decide (signed < -128 ∨ 127 < signed))).setZN r

/-- R188. -/
def compareWith (r m : Byte) (s : State) : State :=
  (s.setFlag .c (decide (m.toNat ≤ r.toNat))).setZN (u8 ((r.toNat : Int) - m.toNat))

/-- R240 `BranchIf(cond)`. -/
def branchIf (cond : Bool) (off : Int) (s : State) : State :=
  if cond then
    let target := u16 (s.pc.toNat + off)
    let s1 := { s with pc := target, cycles := s.cycles + 1 }
    if target.toNat / 256 ≠ s.pc.toNat / 256 then { s1 with cycles := s1.cycles + 1 } else s1
  else s

/-- R220 `Get()`: A in the accumulator form, the byte at `ea` otherwise. -/
def getOperand (m : Mode) (ea : Addr) (s : State) : Byte := if m = .acc then s.a else s.read ea

/-- R220 `Put(r)`. -/
def putResult (m : Mode) (ea : Addr) (r : Byte) (s : State) : State :=
  if m = .acc then { s with a := r } else { s with mem := s.mem.write ea r }

/-- R193 to R198: a register or a cell and Z, N from the new value. -/
def loadedX (v : Byte) (s : State) : State := ({ s with x := v }).setZN v

/-- As `loadedX`, for Y. -/
def loadedY (v : Byte) (s : State) : State := ({ s with y := v }).setZN v

/-- As `loadedX`, for A. -/
def loadedA (v : Byte) (s : State) : State := ({ s with a := v }).setZN v

/-- The effects of files 42 to 46, by mnemonic. -/
def effect (k : Mnemonic) (m : Mode) (ea : Addr) (off : Int) (s : State) : State :=
  let v := s.read ea
  let g := getOperand m ea s
  let cin : Nat := if s.flag .c then 1 else 0
  match k with
  | .lda => loadedA v s
  | .ldx => loadedX v s
  | .ldy => loadedY v s
  | .sta => { s with mem := s.mem.write ea s.a }
  | .stx => { s with mem := s.mem.write ea s.x }
  | .sty => { s with mem := s.mem.write ea s.y }
  | .tax => loadedX s.a s
  | .tay => loadedY s.a s
  | .txa => loadedA s.x s
  | .tya => loadedA s.y s
  | .tsx => loadedX s.sp s
  | .txs => { s with sp := s.x }
  | .adc => addCarry v s
  | .sbc => addCarry (u8 (255 - (v.toNat : Int))) s
  | .and => loadedA (s.a &&& v) s
  | .ora => loadedA (s.a ||| v) s
  | .eor => loadedA (s.a ^^^ v) s
  | .cmp => compareWith s.a v s
  | .cpx => compareWith s.x v s
  | .cpy => compareWith s.y v s
  | .bit => ((s.setFlag .z ((s.a &&& v) == 0)).setFlag .n (v.getLsbD 7)).setFlag .v (v.getLsbD 6)
  | .inc => ({ s with mem := s.mem.write ea (u8 (v.toNat + 1)) }).setZN (u8 (v.toNat + 1))
  | .dec => ({ s with mem := s.mem.write ea (u8 (v.toNat - 1)) }).setZN (u8 (v.toNat - 1))
  | .inx => loadedX (u8 (s.x.toNat + 1)) s
  | .iny => loadedY (u8 (s.y.toNat + 1)) s
  | .dex => loadedX (u8 (s.x.toNat - 1)) s
  | .dey => loadedY (u8 (s.y.toNat - 1)) s
  | .asl =>
    let r := u8 (2 * g.toNat)
    (putResult m ea r (s.setFlag .c (decide (128 ≤ g.toNat)))).setZN r
  | .lsr =>
    let r := u8 (g.toNat / 2)
    (putResult m ea r (s.setFlag .c (decide (g.toNat % 2 = 1)))).setZN r
  | .rol =>
    let r := u8 (2 * g.toNat + cin)
    (putResult m ea r (s.setFlag .c (decide (128 ≤ g.toNat)))).setZN r
  | .ror =>
    let r := u8 (g.toNat / 2 + 128 * cin)
    (putResult m ea r (s.setFlag .c (decide (g.toNat % 2 = 1)))).setZN r
  | .bpl => branchIf (s.flag .n == false) off s
  | .bmi => branchIf (s.flag .n == true) off s
  | .bvc => branchIf (s.flag .v == false) off s
  | .bvs => branchIf (s.flag .v == true) off s
  | .bcc => branchIf (s.flag .c == false) off s
  | .bcs => branchIf (s.flag .c == true) off s
  | .bne => branchIf (s.flag .z == false) off s
  | .beq => branchIf (s.flag .z == true) off s
  | .jmp => { s with pc := ea }
  | .jsr => { push16 (u16 ((s.pc.toNat : Int) - 1)) s with pc := ea }
  | .rts =>
    let (w, s1) := pull16 s
    { s1 with pc := u16 (w.toNat + 1) }
  | .pha => push s.a s
  | .php => push (s.p ||| 0x30) s
  | .pla =>
    let (v, s1) := pull s
    loadedA v s1
  | .plp => pullP s
  | .clc => s.setFlag .c false
  | .sec => s.setFlag .c true
  | .cli => s.setFlag .i false
  | .sei => s.setFlag .i true
  | .clv => s.setFlag .v false
  | .cld => s.setFlag .d false
  | .sed => s.setFlag .d true
  | .nop => s
  | .brk =>
    let s1 := (fetchByte s).2
    let s2 := push (s1.p ||| 0x30) (push16 s1.pc s1)
    { s2.setFlag .i true with halted := true, haltReason := .brk }
  | .rti =>
    let s1 := pullP s
    let (w, s2) := pull16 s1
    { s2 with pc := w }

/-- R140 `step()`. -/
def step (s : State) : State :=
  if s.halted then s
  else
    let (op, s1) := fetchByte s
    match lookup s.params.unofficialNops op with
    | none => { s with halted := true, haltReason := .unknownOpcode op }
    | some d =>
      let r := resolve d.mode s1
      let s2 := effect d.mnemonic d.mode r.ea r.off r.state
      { s2 with cycles := s2.cycles + d.baseCycles + (if d.pageCrossExtra && r.crossed then 1 else 0) }

end Sys2Proof.Reference
end

