-- ==== Sys2Proof/Certificates/Slice0/Obligations.lean ====
section
/-! DEFINITION. The statements for the provers, and the words they are written in. Values and addresses are those of the rules; the
effective address of a form is the resolver's own function applied to the state the effect sees. Opcode values, base cycles, the
flags of the transfers and the bit positions of P other than N and V are the spec's own choices (D1, D2, D20, D21: logs 7, 8), so
the statements that rest on them are derived. Nothing here rests on a value of logs 1 to 6. -/

namespace Sys2Proof.Claims

open Sys2Proof.Machine

/-- The 8-bit registers besides P (R30). -/
inductive Reg where
  | a | x | y | sp
  deriving DecidableEq, Repr

/-- The value of a register. -/
def reg (s : State) : Reg → Byte
  | .a => s.a
  | .x => s.x
  | .y => s.y
  | .sp => s.sp

/-- The frame of an instruction: every register, every flag and every byte of memory outside the lists is unchanged, and so are
bit 5 of P as it reads, the halt latch and the parameters. PC and `cycles` are stated apart. -/
structure Frame (s t : State) (regs : List Reg) (flags : List Flag) (stored : List Addr) : Prop where
  registers : ∀ r, r ∉ regs → reg t r = reg s r
  flags : ∀ f, f ∉ flags → t.flag f = s.flag f
  unused : t.readP.getLsbD 5 = s.readP.getLsbD 5
  memory : ∀ a, a ∉ stored → t.read a = s.read a
  halted : t.halted = s.halted
  reason : t.haltReason = s.haltReason
  params : t.params = s.params

/-- R16: Z of a value. -/
def zOf (v : Byte) : Bool := decide (v.toNat = 0)

/-- R16: N of a value, its bit 7. -/
def nOf (v : Byte) : Bool := decide (128 ≤ v.toNat)

/-- An instruction form that reads an operand: the operand's value and the cycles the form takes. -/
structure Form where
  instr : Instr
  operand : Byte
  cycles : Nat

/-- An instruction form with an effective address in memory. -/
structure MemForm where
  instr : Instr
  ea : Addr
  cycles : Nat

/-- The eight operand forms of LDA, ADC, SBC, AND, ORA, EOR and CMP (R100). -/
def eightForms (n : Byte) (w : Addr) (s : State) (imm zpg zpgx izpx izpy : Byte → Instr) (ab abx aby : Addr → Instr) :
    List Form :=
  [⟨imm n, n, 2⟩, ⟨zpg n, s.read (zp n).ea, 3⟩, ⟨zpgx n, s.read (zpx n s).ea, 4⟩, ⟨ab w, s.read w, 4⟩,
   ⟨abx w, s.read (absx w s).ea, 4 + (absx w s).crossed.toNat⟩,
   ⟨aby w, s.read (absy w s).ea, 4 + (absy w s).crossed.toNat⟩,
   ⟨izpx n, s.read (izx n s).ea, 6⟩, ⟨izpy n, s.read (izy n s).ea, 5 + (izy n s).crossed.toNat⟩]

def ldaForms (n : Byte) (w : Addr) (s : State) : List Form :=
  eightForms n w s .ldaImm .ldaZp .ldaZpx .ldaIzx .ldaIzy .ldaAbs .ldaAbsx .ldaAbsy

def adcForms (n : Byte) (w : Addr) (s : State) : List Form :=
  eightForms n w s .adcImm .adcZp .adcZpx .adcIzx .adcIzy .adcAbs .adcAbsx .adcAbsy

def sbcForms (n : Byte) (w : Addr) (s : State) : List Form :=
  eightForms n w s .sbcImm .sbcZp .sbcZpx .sbcIzx .sbcIzy .sbcAbs .sbcAbsx .sbcAbsy

def andForms (n : Byte) (w : Addr) (s : State) : List Form :=
  eightForms n w s .andImm .andZp .andZpx .andIzx .andIzy .andAbs .andAbsx .andAbsy

def oraForms (n : Byte) (w : Addr) (s : State) : List Form :=
  eightForms n w s .oraImm .oraZp .oraZpx .oraIzx .oraIzy .oraAbs .oraAbsx .oraAbsy

def eorForms (n : Byte) (w : Addr) (s : State) : List Form :=
  eightForms n w s .eorImm .eorZp .eorZpx .eorIzx .eorIzy .eorAbs .eorAbsx .eorAbsy

def cmpForms (n : Byte) (w : Addr) (s : State) : List Form :=
  eightForms n w s .cmpImm .cmpZp .cmpZpx .cmpIzx .cmpIzy .cmpAbs .cmpAbsx .cmpAbsy

def ldxForms (n : Byte) (w : Addr) (s : State) : List Form :=
  [⟨.ldxImm n, n, 2⟩, ⟨.ldxZp n, s.read (zp n).ea, 3⟩, ⟨.ldxZpy n, s.read (zpy n s).ea, 4⟩, ⟨.ldxAbs w, s.read w, 4⟩,
   ⟨.ldxAbsy w, s.read (absy w s).ea, 4 + (absy w s).crossed.toNat⟩]

def ldyForms (n : Byte) (w : Addr) (s : State) : List Form :=
  [⟨.ldyImm n, n, 2⟩, ⟨.ldyZp n, s.read (zp n).ea, 3⟩, ⟨.ldyZpx n, s.read (zpx n s).ea, 4⟩, ⟨.ldyAbs w, s.read w, 4⟩,
   ⟨.ldyAbsx w, s.read (absx w s).ea, 4 + (absx w s).crossed.toNat⟩]

def cpxForms (n : Byte) (w : Addr) (s : State) : List Form :=
  [⟨.cpxImm n, n, 2⟩, ⟨.cpxZp n, s.read (zp n).ea, 3⟩, ⟨.cpxAbs w, s.read w, 4⟩]

def cpyForms (n : Byte) (w : Addr) (s : State) : List Form :=
  [⟨.cpyImm n, n, 2⟩, ⟨.cpyZp n, s.read (zp n).ea, 3⟩, ⟨.cpyAbs w, s.read w, 4⟩]

/-- The store forms, each with the register it stores (R163 to R165). -/
def storeForms (n : Byte) (w : Addr) (s : State) : List (MemForm × Byte) :=
  [(⟨.staZp n, (zp n).ea, 3⟩, s.a), (⟨.staZpx n, (zpx n s).ea, 4⟩, s.a), (⟨.staAbs w, (abs16 w).ea, 4⟩, s.a),
   (⟨.staAbsx w, (absx w s).ea, 5⟩, s.a), (⟨.staAbsy w, (absy w s).ea, 5⟩, s.a), (⟨.staIzx n, (izx n s).ea, 6⟩, s.a),
   (⟨.staIzy n, (izy n s).ea, 6⟩, s.a), (⟨.stxZp n, (zp n).ea, 3⟩, s.x), (⟨.stxZpy n, (zpy n s).ea, 4⟩, s.x),
   (⟨.stxAbs w, (abs16 w).ea, 4⟩, s.x), (⟨.styZp n, (zp n).ea, 3⟩, s.y), (⟨.styZpx n, (zpx n s).ea, 4⟩, s.y),
   (⟨.styAbs w, (abs16 w).ea, 4⟩, s.y)]

/-- The memory forms of a read-modify-write (R100). -/
def modifyForms (n : Byte) (w : Addr) (s : State) (zpg zpgx : Byte → Instr) (ab abx : Addr → Instr) : List MemForm :=
  [⟨zpg n, (zp n).ea, 5⟩, ⟨zpgx n, (zpx n s).ea, 6⟩, ⟨ab w, (abs16 w).ea, 6⟩, ⟨abx w, (absx w s).ea, 7⟩]

/-- What every read-modify-write of a memory cell leaves: `r` in the cell, Z and N of `r`, the flags of `more` as given. -/
def ModifiesCell (s : State) (f : MemForm) (r : Byte) (carry : Option Bool) : Prop :=
  ∃ t, exec f.instr s = .next t ∧ t.read f.ea = r ∧ t.flag .z = zOf r ∧ t.flag .n = nOf r ∧
    (∀ out, carry = some out → t.flag .c = out) ∧ t.pc = s.pc ∧ t.cycles = s.cycles + f.cycles ∧
    Frame s t [] (if carry.isSome then [.z, .n, .c] else [.z, .n]) [f.ea]

/-- What every accumulator form of a shift or rotate leaves: `r` in A, the bit shifted out in C, Z and N of `r`. -/
def ModifiesA (s : State) (i : Instr) (r : Byte) (out : Bool) : Prop :=
  ∃ t, exec i s = .next t ∧ t.a = r ∧ t.flag .z = zOf r ∧ t.flag .n = nOf r ∧ t.flag .c = out ∧ t.pc = s.pc ∧
    t.cycles = s.cycles + 2 ∧ Frame s t [.a] [.z, .n, .c] []

/-- What every instruction that loads one register leaves: `v` in the register, Z and N of `v`. -/
def LoadsRegister (s : State) (i : Instr) (r : Reg) (v : Byte) (cycles : Nat) : Prop :=
  ∃ t, exec i s = .next t ∧ reg t r = v ∧ t.flag .z = zOf v ∧ t.flag .n = nOf v ∧ t.pc = s.pc ∧
    t.cycles = s.cycles + cycles ∧ Frame s t [r] [.z, .n] []

/-- What every compare leaves (R188): C the unsigned `r >= m`, Z and N of `(r - m) mod 256`; nothing else. -/
def ComparesWith (s : State) (r : Byte) (f : Form) : Prop :=
  ∃ t, exec f.instr s = .next t ∧ t.flag .c = decide (f.operand.toNat ≤ r.toNat) ∧
    t.flag .z = decide (r.toNat = f.operand.toNat) ∧
    t.flag .n = decide (128 ≤ (r.toNat + 256 - f.operand.toNat) % 256) ∧ t.pc = s.pc ∧
    t.cycles = s.cycles + f.cycles ∧ Frame s t [] [.z, .n, .c] []

/-- The branches (R241 to R248), each with the condition it tests. -/
def branchForms (r : Byte) (s : State) : List (Instr × Bool) :=
  [(.bpl r, !s.flag .n), (.bmi r, s.flag .n), (.bvc r, !s.flag .v), (.bvs r, s.flag .v), (.bcc r, !s.flag .c),
   (.bcs r, s.flag .c), (.bne r, !s.flag .z), (.beq r, s.flag .z)]

/-- The flag instructions (R266 to R272), each with its flag and the value it writes. -/
def flagForms : List (Instr × Flag × Bool) :=
  [(.clc, .c, false), (.sec, .c, true), (.cli, .i, false), (.sei, .i, true), (.clv, .v, false), (.cld, .d, false),
   (.sed, .d, true)]

/-- NOP (R280) and the 27 candidates (R104, R281), each with its cycles. -/
def nopForms (n : Byte) (w : Addr) (s : State) : List (Instr × Nat) :=
  [(.nop, 2), (.nopImp1A, 2), (.nopImp3A, 2), (.nopImp5A, 2), (.nopImp7A, 2), (.nopImpDA, 2), (.nopImpFA, 2),
   (.nopImm80 n, 2), (.nopImm82 n, 2), (.nopImm89 n, 2), (.nopImmC2 n, 2), (.nopImmE2 n, 2), (.nopZp04 n, 3),
   (.nopZp44 n, 3), (.nopZp64 n, 3), (.nopZpx14 n, 4), (.nopZpx34 n, 4), (.nopZpx54 n, 4), (.nopZpx74 n, 4),
   (.nopZpxD4 n, 4), (.nopZpxF4 n, 4), (.nopAbs0C w, 4), (.nopAbsx1C w, 4 + (absx w s).crossed.toNat),
   (.nopAbsx3C w, 4 + (absx w s).crossed.toNat), (.nopAbsx5C w, 4 + (absx w s).crossed.toNat),
   (.nopAbsx7C w, 4 + (absx w s).crossed.toNat), (.nopAbsxDC w, 4 + (absx w s).crossed.toNat),
   (.nopAbsxFC w, 4 + (absx w s).crossed.toNat)]

/-- R34: the mnemonics that may change a register; the accumulator forms of the shifts are apart. SP: R171, R260, R261. -/
def registerWriters : Reg → List Mnemonic
  | .a => [.lda, .txa, .tya, .pla, .adc, .sbc, .and, .ora, .eor]
  | .x => [.ldx, .tax, .tsx, .inx, .dex]
  | .y => [.ldy, .tay, .iny, .dey]
  | .sp => [.txs, .pha, .php, .pla, .plp, .jsr, .rts, .rti, .brk]

/-- R38: the mnemonics that write N and Z. -/
def znWriters : List Mnemonic :=
  [.lda, .ldx, .ldy, .tax, .tay, .txa, .tya, .tsx, .pla, .adc, .sbc, .and, .ora, .eor, .cmp, .cpx, .cpy, .bit, .inc, .dec,
   .inx, .iny, .dex, .dey, .asl, .lsr, .rol, .ror, .plp, .rti]

/-- R38. -/
def flagWriters : Flag → List Mnemonic
  | .n => znWriters
  | .z => znWriters
  | .c => [.adc, .sbc, .cmp, .cpx, .cpy, .asl, .lsr, .rol, .ror, .clc, .sec, .plp, .rti]
  | .v => [.adc, .sbc, .bit, .clv, .plp, .rti]
  | .i => [.sei, .cli, .brk, .plp, .rti]
  | .d => [.sed, .cld, .plp, .rti]
  | .b => [.plp, .rti]

/-- The mnemonics that write memory. -/
def memoryWriters : List Mnemonic :=
  [.sta, .stx, .sty, .inc, .dec, .asl, .lsr, .rol, .ror, .pha, .php, .jsr, .brk]

/-- R151: the mnemonics that write PC beyond the fetch. -/
def transfers : List Mnemonic :=
  [.bpl, .bmi, .bvc, .bvs, .bcc, .bcs, .bne, .beq, .jmp, .jsr, .rts, .rti, .brk]

/-- R120, R133, R146: the page crossing that the resolver reports for an instruction, from its mode and its operand bytes in the
state its effect sees. Only absx, absy and izy report one. -/
def formCrossed (i : Instr) (s : State) : Bool :=
  match (descriptorOf i).mode, operandBytesOf i with
  | .absx, [lo, hi] => (absx (hiLo hi lo) s).crossed
  | .absy, [lo, hi] => (absy (hiLo hi lo) s).crossed
  | .izy, [n] => (izy n s).crossed
  | _, _ => false

/-- R103: the 78 opcodes that are never assigned. -/
def neverAssigned : List Byte :=
  [0x02, 0x03, 0x07, 0x0B, 0x0F, 0x12, 0x13, 0x17, 0x1B, 0x1F, 0x22, 0x23, 0x27, 0x2B, 0x2F, 0x32, 0x33, 0x37, 0x3B, 0x3F,
   0x42, 0x43, 0x47, 0x4B, 0x4F, 0x52, 0x53, 0x57, 0x5B, 0x5F, 0x62, 0x63, 0x67, 0x6B, 0x6F, 0x72, 0x73, 0x77, 0x7B, 0x7F] ++
  [0x83, 0x87, 0x8B, 0x8F, 0x92, 0x93, 0x97, 0x9B, 0x9C, 0x9E, 0x9F, 0xA3, 0xA7, 0xAB, 0xAF, 0xB2, 0xB3, 0xB7, 0xBB, 0xBF,
   0xC3, 0xC7, 0xCB, 0xCF, 0xD2, 0xD3, 0xD7, 0xDB, 0xDF, 0xE3, 0xE7, 0xEB, 0xEF, 0xF2, 0xF3, 0xF7, 0xFB, 0xFF]

/-- The opcode at PC has no descriptor in this build's table (R103). -/
def UnknownAt (s : State) : Prop :=
  s.read s.pc ∈ neverAssigned ∨ (s.read s.pc ∈ nopCandidates ∧ s.read s.pc ∉ s.params.unofficialNops)

/-- Two states agree on everything but one flag (and bit 5 of P, which reads 1 in both). -/
structure AgreeBut (f : Flag) (s t : State) : Prop where
  registers : ∀ r, reg t r = reg s r
  pc : t.pc = s.pc
  flags : ∀ g, g ≠ f → t.flag g = s.flag g
  memory : ∀ a, t.read a = s.read a
  cycles : t.cycles = s.cycles
  halted : t.halted = s.halted
  reason : t.haltReason = s.haltReason
  params : t.params = s.params

end Sys2Proof.Claims

open Sys2Proof Sys2Proof.Machine Sys2Proof.Claims

/-- For every state, address and byte: after MemWrite the addressed cell reads as the byte and every other address as before, and no register, flag, counter or parameter changes; Read16, Read16ZP and Read16Bug give the little-endian word whose high byte comes from the next address modulo 65536, from the next zero-page address modulo 256, and from the next address inside the same page. -/
def Obligations.WriteChangesExactlyTheAddressedByte : Prop :=
  ∀ (s : State) (a : Addr) (v : Byte),
    (s.write a v).read a = v ∧ (∀ b, b ≠ a → (s.write a v).read b = s.read b) ∧
    (∃ m, s.write a v = { s with mem := m }) ∧
    (s.mem.read16 a).toNat = (s.read (BitVec.ofNat 16 (a.toNat + 1))).toNat * 256 + (s.read a).toNat ∧
    (s.read16Zp v).toNat =
      (s.read (BitVec.ofNat 16 ((v.toNat + 1) % 256))).toNat * 256 + (s.read (BitVec.ofNat 16 v.toNat)).toNat ∧
    (s.read16Bug a).toNat =
      (s.read (BitVec.ofNat 16 (a.toNat / 256 * 256 + (a.toNat + 1) % 256))).toNat * 256 + (s.read a).toNat

/-- For memories m and m2 in canonical form: if every one of the 65536 addresses reads the same in both, then m = m2. The canonical form is the model's own representation of the store of R60 (log 3). -/
def Obligations.CanonicalMemoriesThatReadAlikeAreEqual : Prop :=
  ∀ m m2 : Memory, m.wf = true → m2.wf = true → (∀ a : Addr, m.read a = m2.read a) → m = m2

/-- setZN(v) sets Z exactly when v is 0 and N to bit 7 of v, and leaves every register, the other flags, memory, PC, cycles and the halt latch as they were. -/
def Obligations.ZeroAndNegativeFollowTheValue : Prop :=
  ∀ (s : State) (v : Byte),
    (s.setZN v).flag .z = zOf v ∧ (s.setZN v).flag .n = nOf v ∧ (s.setZN v).pc = s.pc ∧
    (s.setZN v).cycles = s.cycles ∧ Frame s (s.setZN v) [] [.z, .n] []

/-- Whatever byte is written to P, by a flag write, a pull or reset, bit 5 of the register is 1 afterwards and the other bits are those supplied; in every state P reads with bit 5 as 1 and its other bits as the register holds them; from a state whose bit 5 is 1 every step answers a next state whose bit 5 is 1. The 8-bit and 16-bit ranges of the masking invariant are the types of the registers, cells and PC. -/
def Obligations.UnusedBitOfPIsHardwiredToOne : Prop :=
  ∀ (s : State) (v : Byte) (f : Flag) (on : Bool) (inp : ResetInput) (k : Nat),
    (s.writeP v).p.getLsbD 5 = true ∧ (k ≠ 5 → (s.writeP v).p.getLsbD k = v.getLsbD k) ∧
    (s.setFlag f on).p.getLsbD 5 = true ∧ s.pullP.p.getLsbD 5 = true ∧ (s.applyReset inp).p.getLsbD 5 = true ∧
    s.readP.getLsbD 5 = true ∧ (k ≠ 5 → s.readP.getLsbD k = s.p.getLsbD k) ∧
    (s.p.getLsbD 5 = true → ∃ t, step s = .next t ∧ t.p.getLsbD 5 = true)

/-- For all bytes a, m and carry-in: the result is the exact sum modulo 256; carry-out holds exactly when the exact sum is above 255; overflow is (a and m agree in bit 7) and (a and result differ in bit 7), which holds exactly when the signed sum lies outside -128..127. -/
def Obligations.AddWithCarryIsExactSumWithCarryAndOverflow : Prop :=
  ∀ (a m : Byte) (cin : Bool),
    let r := addWithCarry a m cin
    let sum := a.toNat + m.toNat + (if cin then 1 else 0)
    let signed : Int := a.toInt + m.toInt + (if cin then 1 else 0)
    r.result.toNat = sum % 256 ∧ r.c = decide (255 < sum) ∧
    r.v = ((a.getLsbD 7 == m.getLsbD 7) && (a.getLsbD 7 != r.result.getLsbD 7)) ∧
    (r.v = true ↔ signed < -128 ∨ 127 < signed)

/-- Compare(r, m) sets C exactly when r >= m as unsigned numbers and Z and N from (r - m) modulo 256; V, I, D, B, every register and every memory cell are unchanged. -/
def Obligations.CompareSetsCarryWhenNotBelow : Prop :=
  ∀ (s : State) (r m : Byte),
    (s.compare r m).flag .c = decide (m.toNat ≤ r.toNat) ∧
    (s.compare r m).flag .z = decide ((r.toNat + 256 - m.toNat) % 256 = 0) ∧
    (s.compare r m).flag .n = decide (128 ≤ (r.toNat + 256 - m.toNat) % 256) ∧
    (s.compare r m).pc = s.pc ∧ (s.compare r m).cycles = s.cycles ∧ Frame s (s.compare r m) [] [.z, .n, .c] []

/-- With operand byte b: zp gives address b, zpx gives (b + X) modulo 256, zpy gives (b + Y) modulo 256, all in page 0; each consumes 1 operand byte and reports no page crossing. -/
def Obligations.ZeroPageModesWrapInPageZero : Prop :=
  ∀ (s : State) (b : Byte),
    (zp b).ea.toNat = b.toNat ∧ (zp b).crossed = false ∧
    (zpx b s).ea.toNat = (b.toNat + s.x.toNat) % 256 ∧ (zpx b s).crossed = false ∧
    (zpy b s).ea.toNat = (b.toNat + s.y.toNat) % 256 ∧ (zpy b s).crossed = false ∧
    (∀ i, (descriptorOf i).mode ∈ [Mode.zp, .zpx, .zpy] → fetchedBytes i = 2)

/-- With operand bytes lo then hi: abs gives hi * 256 + lo without a crossing; absx and absy give that base plus X or Y modulo 65536, with a crossing exactly when the high byte differs from the base's; each consumes 2 operand bytes. -/
def Obligations.AbsoluteModesWrapAt65536 : Prop :=
  ∀ (s : State) (lo hi : Byte),
    let base := hi.toNat * 256 + lo.toNat
    let w := hiLo hi lo
    (abs16 w).ea.toNat = base ∧ (abs16 w).crossed = false ∧
    (absx w s).ea.toNat = (base + s.x.toNat) % 65536 ∧
    (absx w s).crossed = decide ((base + s.x.toNat) % 65536 / 256 ≠ hi.toNat) ∧
    (absy w s).ea.toNat = (base + s.y.toNat) % 65536 ∧
    (absy w s).crossed = decide ((base + s.y.toNat) % 65536 / 256 ≠ hi.toNat) ∧
    (∀ i, (descriptorOf i).mode ∈ [Mode.abs, .absx, .absy] → fetchedBytes i = 3)

/-- With pointer bytes lo then hi: the target's low byte is at the pointer, its high byte at the next address, except that when lo is 0xFF the high byte is read from the start of the same page; when lo is not 0xFF the word is Read16 of the pointer; no crossing is reported and 2 operand bytes are consumed. -/
def Obligations.IndirectJumpKeepsThePageBug : Prop :=
  ∀ (s : State) (lo hi : Byte),
    let ptr := hi.toNat * 256 + lo.toNat
    let high := if lo.toNat = 255 then hi.toNat * 256 else ptr + 1
    (ind (hiLo hi lo) s).ea.toNat =
      (s.read (BitVec.ofNat 16 high)).toNat * 256 + (s.read (BitVec.ofNat 16 ptr)).toNat ∧
    (lo.toNat ≠ 255 → (ind (hiLo hi lo) s).ea = s.mem.read16 (hiLo hi lo)) ∧
    (ind (hiLo hi lo) s).crossed = false ∧ fetchedBytes (.jmpInd (hiLo hi lo)) = 3

/-- With operand byte b: (zp,X) reads its address little-endian from (b + X) modulo 256 and the next zero-page address, without a crossing; (zp),Y reads its base from b and the next zero-page address and adds Y modulo 65536, with a crossing exactly when the high byte differs from the base's; each consumes 1 operand byte. -/
def Obligations.ZeroPagePointersWrapAndIndex : Prop :=
  ∀ (s : State) (b : Byte),
    let word (p : Nat) : Nat :=
      (s.read (BitVec.ofNat 16 ((p + 1) % 256))).toNat * 256 + (s.read (BitVec.ofNat 16 (p % 256))).toNat
    (izx b s).ea.toNat = word ((b.toNat + s.x.toNat) % 256) ∧ (izx b s).crossed = false ∧
    (izy b s).ea.toNat = (word b.toNat + s.y.toNat) % 65536 ∧
    (izy b s).crossed = decide ((word b.toNat + s.y.toNat) % 65536 / 256 ≠ word b.toNat / 256) ∧
    (∀ i, (descriptorOf i).mode ∈ [Mode.izx, .izy] → fetchedBytes i = 2)

/-- push(v) stores v at 0x0100 + SP and leaves SP - 1 modulo 256; push16 stores the high byte there and the low byte at the next lower stack address; pull leaves SP + 1 modulo 256 and returns the byte at 0x0100 plus that; pull16 takes the low byte first; no other byte of memory changes and a pull changes none. -/
def Obligations.StackStaysInItsPageAndWraps : Prop :=
  ∀ (s : State) (v : Byte) (w : Addr),
    (∀ sp : Byte, (stackAddr sp).toNat = 0x0100 + sp.toNat) ∧
    (s.push v).sp.toNat = (s.sp.toNat + 255) % 256 ∧ (s.push v).read (stackAddr s.sp) = v ∧
    (∀ a, a ≠ stackAddr s.sp → (s.push v).read a = s.read a) ∧
    (s.push16 w).sp.toNat = (s.sp.toNat + 254) % 256 ∧
    ((s.push16 w).read (stackAddr s.sp)).toNat = w.toNat / 256 ∧
    ((s.push16 w).read (stackAddr (s.sp - 1))).toNat = w.toNat % 256 ∧
    (∀ a, a ∉ [stackAddr s.sp, stackAddr (s.sp - 1)] → (s.push16 w).read a = s.read a) ∧
    s.pulled.sp.toNat = (s.sp.toNat + 1) % 256 ∧ s.pull = s.read (stackAddr (s.sp + 1)) ∧
    s.pull16.toNat = (s.read (stackAddr (s.sp + 2))).toNat * 256 + (s.read (stackAddr (s.sp + 1))).toNat ∧
    (∀ a, s.pulled.read a = s.read a)

/-- Every form of LDA, LDX and LDY answers a next state whose A, X or Y is the operand (the immediate byte, or the byte at the effective address), with Z and N of it, PC as it was, the form's cycles added (1 more on a page crossing for absx, absy and izy), and every other register, flag and byte unchanged. -/
def Obligations.LoadsSetTheirRegisterAndZN : Prop :=
  ∀ (s : State) (n : Byte) (w : Addr),
    (∀ f ∈ ldaForms n w s, LoadsRegister s f.instr .a f.operand f.cycles) ∧
    (∀ f ∈ ldxForms n w s, LoadsRegister s f.instr .x f.operand f.cycles) ∧
    (∀ f ∈ ldyForms n w s, LoadsRegister s f.instr .y f.operand f.cycles)

/-- Every form of STA, STX and STY answers a next state in which the byte at the effective address is the register, every other byte, every register and every flag is unchanged, PC is as it was and exactly the base cycles are added. -/
def Obligations.StoresWriteOnlyTheEffectiveAddress : Prop :=
  ∀ (s : State) (n : Byte) (w : Addr), ∀ f ∈ storeForms n w s,
    ∃ t, exec f.1.instr s = .next t ∧ t.read f.1.ea = f.2 ∧ t.pc = s.pc ∧ t.cycles = s.cycles + f.1.cycles ∧
      Frame s t [] [] [f.1.ea]

/-- Each of TAX, TAY, TXA, TYA and TSX answers a next state whose destination register is the source register, with Z and N of the value moved, PC as it was, 2 cycles added, and everything else unchanged; TXS answers one whose SP is X, with every flag, every other register and all of memory unchanged, PC as it was and 2 cycles added. -/
def Obligations.TransfersMoveAndSetZN : Prop :=
  ∀ s : State,
    LoadsRegister s .tax .x s.a 2 ∧ LoadsRegister s .tay .y s.a 2 ∧ LoadsRegister s .txa .a s.x 2 ∧
    LoadsRegister s .tya .a s.y 2 ∧ LoadsRegister s .tsx .x s.sp 2 ∧
    ∃ t, exec .txs s = .next t ∧ t.sp = s.x ∧ t.pc = s.pc ∧ t.cycles = s.cycles + 2 ∧ Frame s t [.sp] [] []

/-- Every form of ADC gives A the sum A + operand + C modulo 256, C when it exceeds 255, V when the signed sum leaves -128..127; every form of SBC gives A the difference A - operand - (1 - C) modulo 256, C exactly when there is no borrow, V when the signed difference leaves -128..127; Z and N of the result; PC as it was, the form's cycles added, everything else unchanged. -/
def Obligations.AddAndSubtractAreBinaryWithCarry : Prop :=
  ∀ (s : State) (n : Byte) (w : Addr),
    let c : Nat := if s.flag .c then 1 else 0
    (∀ f ∈ adcForms n w s, ∃ t, exec f.instr s = .next t ∧
      t.a.toNat = (s.a.toNat + f.operand.toNat + c) % 256 ∧
      t.flag .c = decide (256 ≤ s.a.toNat + f.operand.toNat + c) ∧
      (t.flag .v = true ↔ s.a.toInt + f.operand.toInt + c < -128 ∨ 127 < s.a.toInt + f.operand.toInt + c) ∧
      t.flag .z = zOf t.a ∧ t.flag .n = nOf t.a ∧ t.pc = s.pc ∧ t.cycles = s.cycles + f.cycles ∧
      Frame s t [.a] [.n, .v, .z, .c] []) ∧
    (∀ f ∈ sbcForms n w s, ∃ t, exec f.instr s = .next t ∧
      (t.a.toNat : Int) = ((s.a.toNat : Int) - f.operand.toNat - (1 - c)) % 256 ∧
      t.flag .c = decide (f.operand.toNat + (1 - c) ≤ s.a.toNat) ∧
      (t.flag .v = true ↔
        s.a.toInt - f.operand.toInt - (1 - c) < -128 ∨ 127 < s.a.toInt - f.operand.toInt - (1 - c)) ∧
      t.flag .z = zOf t.a ∧ t.flag .n = nOf t.a ∧ t.pc = s.pc ∧ t.cycles = s.cycles + f.cycles ∧
      Frame s t [.a] [.n, .v, .z, .c] [])

/-- Every form of AND, ORA and EOR answers a next state whose A is the bitwise and, or, exclusive or of A and the operand, with Z and N of it, PC as it was, the form's cycles added, and everything else unchanged (C and V among it). -/
def Obligations.LogicalInstructionsCombineIntoA : Prop :=
  ∀ (s : State) (n : Byte) (w : Addr),
    (∀ f ∈ andForms n w s, LoadsRegister s f.instr .a (s.a &&& f.operand) f.cycles) ∧
    (∀ f ∈ oraForms n w s, LoadsRegister s f.instr .a (s.a ||| f.operand) f.cycles) ∧
    (∀ f ∈ eorForms n w s, LoadsRegister s f.instr .a (s.a ^^^ f.operand) f.cycles)

/-- Every form of CMP, CPX and CPY answers a next state with C set exactly when the register is at least the operand (unsigned), Z exactly when they are equal, N bit 7 of the difference modulo 256; registers, V and memory are unchanged, PC is as it was and the form's cycles are added. -/
def Obligations.ComparesSetFlagsOnly : Prop :=
  ∀ (s : State) (n : Byte) (w : Addr),
    (∀ f ∈ cmpForms n w s, ComparesWith s s.a f) ∧ (∀ f ∈ cpxForms n w s, ComparesWith s s.x f) ∧
    (∀ f ∈ cpyForms n w s, ComparesWith s s.y f)

/-- Both forms of BIT answer a next state with Z set exactly when A and the operand share no bit, N bit 7 and V bit 6 of the operand; C, A, memory and everything else unchanged; PC as it was; 3 or 4 cycles. -/
def Obligations.BitTestCopiesOperandBits : Prop :=
  ∀ (s : State) (n : Byte) (w : Addr),
    ∀ f ∈ [Form.mk (.bitZp n) (s.read (zp n).ea) 3, Form.mk (.bitAbs w) (s.read (abs16 w).ea) 4],
      ∃ t, exec f.instr s = .next t ∧ t.flag .z = decide (s.a.toNat &&& f.operand.toNat = 0) ∧
        t.flag .n = decide (128 ≤ f.operand.toNat) ∧ t.flag .v = decide (64 ≤ f.operand.toNat % 128) ∧
        t.pc = s.pc ∧ t.cycles = s.cycles + f.cycles ∧ Frame s t [] [.n, .v, .z] []

/-- Every form of INC and DEC answers a next state in which the cell at the effective address holds its old value plus or minus 1 modulo 256, Z and N are of the new value, every other byte, flag and register is unchanged, PC is as it was and the base cycles are added (7 for absx, without a page-cross cycle). -/
def Obligations.MemoryIncrementAndDecrementWrap : Prop :=
  ∀ (s : State) (n : Byte) (w : Addr),
    (∀ f ∈ modifyForms n w s .incZp .incZpx .incAbs .incAbsx,
      ModifiesCell s f (BitVec.ofNat 8 ((s.read f.ea).toNat + 1)) none) ∧
    (∀ f ∈ modifyForms n w s .decZp .decZpx .decAbs .decAbsx,
      ModifiesCell s f (BitVec.ofNat 8 ((s.read f.ea).toNat + 255)) none)

/-- Each of INX, INY, DEX and DEY answers a next state whose register is its old value plus or minus 1 modulo 256, with Z and N of it, PC as it was, 2 cycles added, and everything else unchanged (C and V among it). -/
def Obligations.RegisterIncrementAndDecrementWrap : Prop :=
  ∀ s : State,
    LoadsRegister s .inx .x (BitVec.ofNat 8 (s.x.toNat + 1)) 2 ∧ LoadsRegister s .iny .y (BitVec.ofNat 8 (s.y.toNat + 1)) 2 ∧
    LoadsRegister s .dex .x (BitVec.ofNat 8 (s.x.toNat + 255)) 2 ∧
    LoadsRegister s .dey .y (BitVec.ofNat 8 (s.y.toNat + 255)) 2

/-- ASL gives twice the operand modulo 256 with C its bit 7; LSR gives half the operand with C its bit 0; in the accumulator form the result is in A, in the memory forms in the cell at the effective address; Z and N are of the result, PC is as it was, the form's cycles are added, and everything else is unchanged. -/
def Obligations.ShiftsMoveOneBitIntoCarry : Prop :=
  ∀ (s : State) (n : Byte) (w : Addr),
    ModifiesA s .aslAcc (BitVec.ofNat 8 (2 * s.a.toNat)) (decide (128 ≤ s.a.toNat)) ∧
    (∀ f ∈ modifyForms n w s .aslZp .aslZpx .aslAbs .aslAbsx,
      ModifiesCell s f (BitVec.ofNat 8 (2 * (s.read f.ea).toNat)) (some (decide (128 ≤ (s.read f.ea).toNat)))) ∧
    ModifiesA s .lsrAcc (BitVec.ofNat 8 (s.a.toNat / 2)) (decide (s.a.toNat % 2 = 1)) ∧
    (∀ f ∈ modifyForms n w s .lsrZp .lsrZpx .lsrAbs .lsrAbsx,
      ModifiesCell s f (BitVec.ofNat 8 ((s.read f.ea).toNat / 2)) (some (decide ((s.read f.ea).toNat % 2 = 1))))

/-- ROL gives twice the operand plus the previous carry modulo 256 with C its bit 7; ROR gives half the operand plus 128 times the previous carry with C its bit 0; in the accumulator form the result is in A, in the memory forms in the cell at the effective address; Z and N are of the result, PC is as it was, the form's cycles are added, and everything else is unchanged. -/
def Obligations.RotatesFeedThePreviousCarry : Prop :=
  ∀ (s : State) (n : Byte) (w : Addr),
    let c : Nat := if s.flag .c then 1 else 0
    ModifiesA s .rolAcc (BitVec.ofNat 8 (2 * s.a.toNat + c)) (decide (128 ≤ s.a.toNat)) ∧
    (∀ f ∈ modifyForms n w s .rolZp .rolZpx .rolAbs .rolAbsx,
      ModifiesCell s f (BitVec.ofNat 8 (2 * (s.read f.ea).toNat + c)) (some (decide (128 ≤ (s.read f.ea).toNat)))) ∧
    ModifiesA s .rorAcc (BitVec.ofNat 8 (s.a.toNat / 2 + 128 * c)) (decide (s.a.toNat % 2 = 1)) ∧
    (∀ f ∈ modifyForms n w s .rorZp .rorZpx .rorAbs .rorAbsx,
      ModifiesCell s f (BitVec.ofNat 8 ((s.read f.ea).toNat / 2 + 128 * c)) (some (decide ((s.read f.ea).toNat % 2 = 1))))

/-- R240. BranchIf(cond) leaves the state unchanged when the condition fails; when it holds, PC is the PC after the offset byte plus
the signed offset modulo 65536, 1 cycle is added, and a further one exactly when the high byte of PC changes; no flag, other
register or memory byte is written. A branch on a flag answers that for the flag's test, and the engine adds the base cost. -/
def Obligations.BranchIfAddsOffsetAndCycles : Prop :=
  ∀ (s : State) (r : Byte),
    (branchIf false r s = s) ∧
    (branchIf true r s).pc.toNat = (((s.pc.toNat : Int) + r.toInt) % 65536).toNat ∧
    (branchIf true r s).cycles = s.cycles + 1 +
      (if (branchIf true r s).pc.toNat / 256 ≠ s.pc.toNat / 256 then 1 else 0) ∧
    Frame s (branchIf true r s) [] [] [] ∧
    ∀ (d : Descriptor) (f : Flag) (value : Bool), d.pageCrossExtra = false →
      ∃ t, branchOn d f value r s = .next t ∧ t.pc = (branchIf (s.flag f == value) r s).pc ∧
        t.cycles = (branchIf (s.flag f == value) r s).cycles + d.baseCycles ∧ Frame s t [] [] []

/-- BPL, BMI test N clear and set, BVC, BVS test V, BCC, BCS test C, BNE, BEQ test Z: each answers a next state whose PC is the address after the branch when the condition fails (2 cycles) and that address plus the signed offset modulo 65536 when it holds (3 cycles, 4 to another page); nothing else changes. -/
def Obligations.BranchesTestTheirFlag : Prop :=
  ∀ (s : State) (r : Byte), ∀ f ∈ branchForms r s,
    ∃ t, exec f.1 s = .next t ∧
      t.pc.toNat = (if f.2 then (((s.pc.toNat : Int) + r.toInt) % 65536).toNat else s.pc.toNat) ∧
      t.cycles = s.cycles + 2 + (if f.2 then (if t.pc.toNat / 256 ≠ s.pc.toNat / 256 then 2 else 1) else 0) ∧
      Frame s t [] [] []

/-- JMP absolute answers a next state whose PC is the operand (3 cycles); JMP indirect one whose PC is the word at the pointer, its high byte read inside the pointer's page (5 cycles); nothing else changes. -/
def Obligations.JumpsGoToTheirTarget : Prop :=
  ∀ (s : State) (w : Addr),
    (∃ t, exec (.jmpAbs w) s = .next t ∧ t.pc = w ∧ t.cycles = s.cycles + 3 ∧ Frame s t [] [] []) ∧
    (∃ t, exec (.jmpInd w) s = .next t ∧
      t.pc.toNat = (s.read (BitVec.ofNat 16 (w.toNat / 256 * 256 + (w.toNat + 1) % 256))).toNat * 256 + (s.read w).toNat ∧
      t.cycles = s.cycles + 5 ∧ Frame s t [] [] [])

/-- JSR answers a next state whose PC is its operand, in which the word PC - 1 (PC the address after JSR) is stored high byte at the old stack slot and low byte at the next lower one, SP is 2 lower modulo 256, 6 cycles are added, and everything else is unchanged. -/
def Obligations.SubroutineCallPushesReturnAddressLessOne : Prop :=
  ∀ (s : State) (w : Addr), ∃ t, exec (.jsr w) s = .next t ∧ t.pc = w ∧
    ((t.read (stackAddr s.sp)).toNat * 256 + (t.read (stackAddr (s.sp - 1))).toNat = (s.pc.toNat + 65535) % 65536) ∧
    t.sp.toNat = (s.sp.toNat + 254) % 256 ∧ t.cycles = s.cycles + 6 ∧
    Frame s t [.sp] [] [stackAddr s.sp, stackAddr (s.sp - 1)]

/-- RTS answers a next state whose PC is the word pulled low byte first, plus 1, modulo 65536, SP is 2 higher modulo 256, 6 cycles are added, and everything else is unchanged. -/
def Obligations.SubroutineReturnPullsAndAddsOne : Prop :=
  ∀ s : State, ∃ t, exec .rts s = .next t ∧
    t.pc.toNat = ((s.read (stackAddr (s.sp + 2))).toNat * 256 + (s.read (stackAddr (s.sp + 1))).toNat + 1) % 65536 ∧
    t.sp.toNat = (s.sp.toNat + 2) % 256 ∧ t.cycles = s.cycles + 6 ∧ Frame s t [.sp] [] []

/-- For every state and target: JSR answers some t, and RTS run at t answers some u whose PC is the address after the JSR and whose SP is the SP before it, with A, X, Y and every flag as before the call. -/
def Obligations.ReturnUndoesCall : Prop :=
  ∀ (s : State) (w : Addr), ∃ t u, exec (.jsr w) s = .next t ∧ exec .rts t = .next u ∧
    u.pc = s.pc ∧ (∀ r, reg u r = reg s r) ∧ ∀ f, u.flag f = s.flag f

/-- PHA stores A, PHP stores the byte N V 1 1 D I Z C, at the stack slot SP addresses; SP is 1 lower modulo 256, 3 cycles are added, no flag changes, and everything else is unchanged. -/
def Obligations.PushesStoreAAndForcedP : Prop :=
  ∀ s : State,
    (∃ t, exec .pha s = .next t ∧ t.read (stackAddr s.sp) = s.a ∧ t.sp.toNat = (s.sp.toNat + 255) % 256 ∧ t.pc = s.pc ∧
      t.cycles = s.cycles + 3 ∧ Frame s t [.sp] [] [stackAddr s.sp]) ∧
    (∃ t, exec .php s = .next t ∧ t.sp.toNat = (s.sp.toNat + 255) % 256 ∧ t.pc = s.pc ∧ t.cycles = s.cycles + 3 ∧
      (t.read (stackAddr s.sp)).toNat =
        128 * (s.flag .n).toNat + 64 * (s.flag .v).toNat + 48 + 8 * (s.flag .d).toNat + 4 * (s.flag .i).toNat +
          2 * (s.flag .z).toNat + (s.flag .c).toNat ∧
      Frame s t [.sp] [] [stackAddr s.sp])

/-- PLA answers a next state whose A is the byte at 0x0100 + (SP + 1 modulo 256), with Z and N of it, SP 1 higher modulo 256, PC as it was, 4 cycles added, and everything else unchanged. -/
def Obligations.PullOfAccumulatorSetsZN : Prop :=
  ∀ s : State, ∃ t, exec .pla s = .next t ∧ t.a = s.read (stackAddr (s.sp + 1)) ∧ t.flag .z = zOf t.a ∧
    t.flag .n = nOf t.a ∧ t.sp.toNat = (s.sp.toNat + 1) % 256 ∧ t.pc = s.pc ∧ t.cycles = s.cycles + 4 ∧
    Frame s t [.a, .sp] [.z, .n] []

/-- PLP answers a next state whose N, V, D, I, Z and C are bits 7, 6, 3, 2, 1 and 0 of the pulled byte, whose bit 5 of P is 1, and whose B is the old B under keep and 0 under clear whatever bit 4 of the byte is; SP is 1 higher, PC as it was, 4 cycles added, and everything else unchanged. It holds for both values of PULL_B (log 6). -/
def Obligations.PullOfStatusNeverRestoresBreak : Prop :=
  ∀ s : State, let v := s.read (stackAddr (s.sp + 1))
    ∃ t, exec .plp s = .next t ∧ t.flag .n = v.getLsbD 7 ∧ t.flag .v = v.getLsbD 6 ∧ t.flag .d = v.getLsbD 3 ∧
      t.flag .i = v.getLsbD 2 ∧ t.flag .z = v.getLsbD 1 ∧ t.flag .c = v.getLsbD 0 ∧ t.p.getLsbD 5 = true ∧
      t.flag .b = (if s.params.pullB = .keep then s.flag .b else false) ∧
      t.sp.toNat = (s.sp.toNat + 1) % 256 ∧ t.pc = s.pc ∧ t.cycles = s.cycles + 4 ∧
      Frame s t [.sp] [.n, .v, .d, .i, .z, .c, .b] []

/-- Each of the seven flag instructions answers a next state whose one flag has the value the instruction gives it, with every other flag, every register and all of memory unchanged, PC as it was and 2 cycles added. -/
def Obligations.FlagInstructionsWriteOneFlag : Prop :=
  ∀ s : State, ∀ f ∈ flagForms, ∃ t, exec f.1 s = .next t ∧ t.flag f.2.1 = f.2.2 ∧ t.pc = s.pc ∧
    t.cycles = s.cycles + 2 ∧ Frame s t [] [f.2.1] []

/-- NOP and each of the 27 NOP candidates answers a next state that differs from the state before only in cycles: the base cycles, and 1 more on a page crossing for the absx forms. Whether a candidate runs at all is a matter of the opcode table, of which the statements on unknown opcodes speak (log 5). -/
def Obligations.NopFormsChangeOnlyCycles : Prop :=
  ∀ (s : State) (n : Byte) (w : Addr), ∀ f ∈ nopForms n w s,
    ∃ t, exec f.1 s = .next t ∧ t = { s with cycles := s.cycles + f.2 } ∧ t.pc = s.pc ∧ Frame s t [] [] []

/-- BRK answers a next state that is halted with reason Break, whose PC is 1 further (past the padding byte), in which that PC is stored high byte first at the top two stack slots and N V 1 1 D I Z C (the I before) at the third, SP is 3 lower, I is set, 7 cycles are added (D10), and A, X, Y, the other flags, B among them (D4), every other byte and the parameters are unchanged. -/
def Obligations.BreakPushesItsFrameAndHalts : Prop :=
  ∀ s : State, ∃ t, exec .brk s = .next t ∧ t.halted = true ∧ t.haltReason = .brk ∧ t.pc = s.pc + 1 ∧
    (t.read (stackAddr s.sp)).toNat * 256 + (t.read (stackAddr (s.sp - 1))).toNat = (s.pc.toNat + 1) % 65536 ∧
    (t.read (stackAddr (s.sp - 2))).toNat =
      128 * (s.flag .n).toNat + 64 * (s.flag .v).toNat + 48 + 8 * (s.flag .d).toNat + 4 * (s.flag .i).toNat +
        2 * (s.flag .z).toNat + (s.flag .c).toNat ∧
    t.sp.toNat = (s.sp.toNat + 253) % 256 ∧ t.flag .i = true ∧ (∀ f, f ≠ .i → t.flag f = s.flag f) ∧
    t.cycles = s.cycles + 7 ∧ t.a = s.a ∧ t.x = s.x ∧ t.y = s.y ∧ t.params = s.params ∧
    (∀ a, a ∉ [stackAddr s.sp, stackAddr (s.sp - 1), stackAddr (s.sp - 2)] → t.read a = s.read a)

/-- RTI answers a next state whose N, V, D, I, Z and C come from the first pulled byte, bit 5 of P is 1, B is as PULL_B says (both values, log 6), PC is the next two bytes low first with nothing added, SP is 3 higher, 6 cycles are added, and everything else is unchanged. -/
def Obligations.ReturnFromInterruptPullsStatusThenPc : Prop :=
  ∀ s : State, let v := s.read (stackAddr (s.sp + 1))
    ∃ t, exec .rti s = .next t ∧ t.flag .n = v.getLsbD 7 ∧ t.flag .v = v.getLsbD 6 ∧ t.flag .d = v.getLsbD 3 ∧
      t.flag .i = v.getLsbD 2 ∧ t.flag .z = v.getLsbD 1 ∧ t.flag .c = v.getLsbD 0 ∧ t.p.getLsbD 5 = true ∧
      t.flag .b = (if s.params.pullB = .keep then s.flag .b else false) ∧
      t.pc.toNat = (s.read (stackAddr (s.sp + 3))).toNat * 256 + (s.read (stackAddr (s.sp + 2))).toNat ∧
      t.sp.toNat = (s.sp.toNat + 3) % 256 ∧ t.cycles = s.cycles + 6 ∧
      Frame s t [.sp] [.n, .v, .d, .i, .z, .c, .b] []

/-- Every instruction, from every state, answers a next state, in which X, Y and SP are unchanged unless its mnemonic is among the register's writers, and A is unchanged unless its mnemonic is among A's writers or it is the accumulator form of a shift or rotate. -/
def Obligations.RegistersChangeOnlyInTheirWriters : Prop :=
  ∀ (i : Instr) (s : State), ∃ t, exec i s = .next t ∧
    (∀ r, r ≠ Reg.a → (descriptorOf i).mnemonic ∉ registerWriters r → reg t r = reg s r) ∧
    ((descriptorOf i).mnemonic ∉ registerWriters .a → (descriptorOf i).mode ≠ .acc → t.a = s.a)

/-- Every instruction, from every state, answers a next state in which each of N, V, B, D, I, Z and C is unchanged unless the instruction's mnemonic is in that flag's row of the table of flag writers. -/
def Obligations.FlagsChangeOnlyInTheirWriters : Prop :=
  ∀ (i : Instr) (s : State), ∃ t, exec i s = .next t ∧
    ∀ f, (descriptorOf i).mnemonic ∉ flagWriters f → t.flag f = s.flag f

/-- Every instruction, from every state, answers a next state whose memory and parameters are those before, unless its mnemonic is a store, INC, DEC, a shift or rotate, PHA, PHP, JSR or BRK; an accumulator form changes no memory; the parameters never change. -/
def Obligations.MemoryChangesOnlyInStoresModifiesAndPushes : Prop :=
  ∀ (i : Instr) (s : State), ∃ t, exec i s = .next t ∧ t.params = s.params ∧
    ((descriptorOf i).mnemonic ∉ memoryWriters ∨ (descriptorOf i).mode = .acc → t.mem = s.mem)

/-- For every instruction, state, flag f among D, I and B, and value: run from the state and from the state with f set to that value, the two next states agree on every register, PC, every other flag, all of memory, cycles, the halt latch and the parameters. PHP and BRK, which push P, are left out for D and I only. That I is a plain stored bit is the spec's own choice (D22); for B under keep and clear see log 6. -/
def Obligations.DecimalFlagAffectsNoResult : Prop :=
  ∀ (i : Instr) (s : State) (f : Flag) (on : Bool), f ∈ [Flag.d, .i, .b] →
    ((descriptorOf i).mnemonic ∈ [Mnemonic.php, .brk] → f = .b) →
    ∃ t t2, exec i s = .next t ∧ exec i (s.setFlag f on) = .next t2 ∧ AgreeBut f t t2

/-- For every instruction, state and k: run from the state with k added to cycles, the instruction answers the next state it answers from the state itself, with k added to cycles. -/
def Obligations.NoInstructionReadsTheCycleCounter : Prop :=
  ∀ (i : Instr) (s : State) (k : Nat), ∃ t, exec i s = .next t ∧
    exec i { s with cycles := s.cycles + k } = .next { t with cycles := t.cycles + k }

/-- Every instruction, from every state, answers a next state whose cycles are the old count plus the base cost, exactly so when neither extra flag of the descriptor is set; plus, when the page-cross flag is set, 1 if the resolver reports a crossing for the form (absx, absy, izy) and 0 if it does not; plus 0, 1 or 2 for a branch; and the base cost is at least 2, so the counter strictly grows. -/
def Obligations.CyclesFollowTheDescriptor : Prop :=
  ∀ (i : Instr) (s : State), let d := descriptorOf i
    ∃ t extra, exec i s = .next t ∧ t.cycles = s.cycles + d.baseCycles + extra ∧ 2 ≤ d.baseCycles ∧
      (d.pageCrossExtra = false → d.branchExtra = false → extra = 0) ∧
      (d.pageCrossExtra = true → extra = (formCrossed i s).toNat) ∧
      (d.branchExtra = true → extra ≤ 2)

/-- When the core is running and the bytes at PC decode to i in this build's table, step is exec of i at the same state with PC moved past the opcode and the operand bytes of its mode (modulo 65536). -/
def Obligations.StepRunsTheDecodedInstruction : Prop :=
  ∀ (s : State) (i : Instr) (rest : List Byte), s.halted = false →
    decode s.params.unofficialNops [s.read s.pc, s.read (s.pc + 1), s.read (s.pc + 2)] = .ok (i, rest) →
    step s = exec i { s with pc := s.pc + 1 + BitVec.ofNat 16 (modeOperandBytes (descriptorOf i).mode) }

/-- When the core is running, i has a descriptor in this build's table, and the bytes from PC on (addresses modulo 65536) are the encoding of i, step is exec of i at the same state with PC moved by the length of the encoding. -/
def Obligations.StepRunsTheEncodedInstruction : Prop :=
  ∀ (s : State) (i : Instr), s.halted = false → i.wf s.params.unofficialNops = true →
    (∀ k v, (encode i)[k]? = some v → s.read (s.pc + BitVec.ofNat 16 k) = v) →
    step s = exec i { s with pc := s.pc + BitVec.ofNat 16 (encode i).length }

/-- When the core is running and the bytes at PC decode to no instruction, step answers the same state with halted set and haltReason UnknownOpcode of the byte at PC: PC stays at the opcode and no register, flag, memory byte, counter or parameter changes. That no cycle is charged, the counter unchanged, is the spec's own choice (D9, log 13). -/
def Obligations.UnknownOpcodeHaltsWithNothingElseWritten : Prop :=
  ∀ (s : State) (why : Reject), s.halted = false →
    decode s.params.unofficialNops [s.read s.pc, s.read (s.pc + 1), s.read (s.pc + 2)] = .error why →
    step s = .next { s with halted := true, haltReason := .unknownOpcode (s.read s.pc) }

/-- When the core is running and the byte at PC is one of the 78 opcodes that are never assigned, or a candidate NOP outside this build's UNOFFICIAL_NOPS, step halts the core with UnknownOpcode of that byte and changes nothing else. It holds for every value of the parameter (log 5); the list is general knowledge (G1, G8). -/
def Obligations.UnassignedOpcodesHaltTheCore : Prop :=
  ∀ s : State, s.halted = false → UnknownAt s →
    step s = .next { s with halted := true, haltReason := .unknownOpcode (s.read s.pc) }

/-- From every running state step answers a next state, never a fault or a refusal, and that state is halted exactly when the bytes at PC decode to no instruction or to BRK: no overflow, stack wrap, address or jump target is an exception. That the instruction-execution fault (class b) is raised by nothing is the spec's own choice (R302, D11, log 10). -/
def Obligations.OnlyUnknownOpcodesAndBreakHalt : Prop :=
  ∀ s : State, s.halted = false →
    let decoded := decode s.params.unofficialNops [s.read s.pc, s.read (s.pc + 1), s.read (s.pc + 2)]
    ∃ t, step s = .next t ∧ (t.halted = true ↔ (∃ why, decoded = .error why) ∨ ∃ rest, decoded = .ok (.brk, rest))

/-- From a halted state, any number of steps answers that same state: nothing is read, written or counted, and only the reset operation, which ends in the running state, leaves it. -/
def Obligations.HaltedCoreStaysAsItIs : Prop :=
  ∀ s : State, s.halted = true →
    (∀ k, Sys2Proof.core.run k s = .next s) ∧ ∀ inp, (s.applyReset inp).halted = false

/-- When the core is running and the bytes at PC decode to i: if i is not a branch, JMP, JSR, RTS, RTI or BRK, the next state's PC is the opcode address plus the descriptor's length modulo 65536; if i is BRK it is the opcode address plus 2. -/
def Obligations.NonTransferStepMovesPcByItsLength : Prop :=
  ∀ (s : State) (i : Instr) (rest : List Byte), s.halted = false →
    decode s.params.unofficialNops [s.read s.pc, s.read (s.pc + 1), s.read (s.pc + 2)] = .ok (i, rest) →
    ∃ t, step s = .next t ∧
      ((descriptorOf i).mnemonic ∉ transfers → t.pc.toNat = (s.pc.toNat + (descriptorOf i).length) % 65536) ∧
      (i = .brk → t.pc.toNat = (s.pc.toNat + 2) % 65536)

/-- If P.U is 1, haltReason is None exactly when running and never ExecutionFault, and memory and parameters are in canonical form, then every step answers a next state for which the same holds, and so does every reset with any override and any free inputs. The canonical forms of the memory and of the parameters are the model's own (logs 3 and 5); the other clauses are those of the spec's state file. -/
def Obligations.InvariantIsKeptByEveryStepAndReset : Prop :=
  ∀ s : State, s.Inv →
    (∃ t, step s = .next t ∧ t.Inv) ∧ (∀ t, step s = .next t → t.Inv) ∧ ∀ inp, (s.applyReset inp).Inv

/-- State.reset meets the invariant, with SP 0xFD, I and U set, cycles 0, running with reason None, and PC the little-endian word at 0xFFFC of its memory. The values of A, X, Y, the other flags, the memory and the parameters are the model's choice (logs 1 to 6) and are not stated. -/
def Obligations.ResetStateMeetsTheInvariant : Prop :=
  State.reset.Inv ∧ State.reset.sp = 0xFD ∧ State.reset.flag .i = true ∧ State.reset.cycles = 0 ∧
    State.reset.halted = false ∧ State.reset.haltReason = .none ∧
    State.reset.pc = hiLo (State.reset.read 0xFFFD) (State.reset.read 0xFFFC)

/-- From every state, halted or running, for every override and free inputs: PC is the override, or the little-endian word at 0xFFFC when there is none (D7); SP is 0xFD; A, X, Y are the inputs; P is p0 with I and U set and its other bits from p0 (D5); cycles is 0; the core is running with reason None; memory (D6) and parameters are unchanged. -/
def Obligations.ResetOperationSetsWhatTheSpecNames : Prop :=
  ∀ (s : State) (inp : ResetInput), let t := s.applyReset inp
    (∀ pc, inp.pcOverride = some pc → t.pc = pc) ∧
    (inp.pcOverride = none → t.pc.toNat = (s.read 0xFFFD).toNat * 256 + (s.read 0xFFFC).toNat) ∧
    t.sp = 0xFD ∧ t.a = inp.a0 ∧ t.x = inp.x0 ∧ t.y = inp.y0 ∧ t.flag .i = true ∧ t.p.getLsbD 5 = true ∧
    (∀ f, f ≠ .i → t.flag f = inp.p0.getLsbD (flagBit f)) ∧ t.cycles = 0 ∧ t.halted = false ∧
    t.haltReason = .none ∧ (∀ a, t.read a = s.read a) ∧ t.params = s.params

/-- From every running state that meets the invariant, for every k: the run of k steps is safe (it ends in a next state that is running or halted by BRK), or after some j < k steps the core was running with an unknown opcode at PC. -/
def Obligations.RunIsSafeUnlessItMeetsAnUnknownOpcode : Prop :=
  ∀ (s : State) (k : Nat), s.Inv → s.halted = false →
    s.SafeFor k ∨ ∃ j, j < k ∧ ∃ u, Sys2Proof.core.run j s = .next u ∧ u.halted = false ∧ UnknownAt u

/-- From every state, halted or running, the model's step answers exactly the state that the transcription of the spec's pseudocode gives: the table of R100 and R104 looked up by the opcode byte, PC advanced by each FetchByte, the resolver by mode, the effect by mnemonic on integers brought back to width, and the cycle accounting. The table's values are the spec's own choices (D1, D21). -/
def Obligations.StepIsTheSpecsPseudocode : Prop :=
  ∀ s : State, step s = .next (Reference.step s)

/-- For every UNOFFICIAL_NOPS, every instruction that has a descriptor in that table, with every operand, and every bytes after it: decode of the encoding followed by those bytes is the instruction and those bytes. -/
def Obligations.DecodeOfEncodeIsTheInstruction : Prop :=
  ∀ (nops : List Byte) (i : Instr) (rest : List Byte), i.wf nops = true → decode nops (encode i ++ rest) = .ok (i, rest)

/-- For every UNOFFICIAL_NOPS and byte string: if it decodes to i with rest left over, then i has a descriptor in that table and the byte string is the encoding of i followed by rest. -/
def Obligations.DecodedBytesAreTheEncoding : Prop :=
  ∀ (nops bs rest : List Byte) (i : Instr), decode nops bs = .ok (i, rest) → i.wf nops = true ∧ bs = encode i ++ rest

/-- For every UNOFFICIAL_NOPS, opcode byte and bytes after it: decode rejects it as an unknown opcode exactly when it is one of the 78 never-assigned opcodes or a candidate outside the set. -/
def Obligations.OpcodeIsUnknownExactlyWhenUnassigned : Prop :=
  ∀ (nops : List Byte) (op : Byte) (rest : List Byte),
    decode nops (op :: rest) = .error (.unknownOpcode op) ↔
      op ∈ neverAssigned ∨ (op ∈ nopCandidates ∧ op ∉ nops)

/-- The bytes 69 42 are ADC #$42, BD 34 12 LDA $1234,X, 91 10 STA ($10),Y, 0A ASL A, D0 FE BNE -2, 6C FF 30 JMP ($30FF), 20 00 20 JSR $2000, 08 PHP, 00 BRK; FF is unknown, and 1A is NOP exactly when 0x1A is in UNOFFICIAL_NOPS. -/
def Obligations.SampleWordsDecodeAsTheTableSays : Prop :=
  ∀ nops : List Byte,
    decode nops [0x69, 0x42] = .ok (.adcImm 0x42, []) ∧ decode nops [0xBD, 0x34, 0x12] = .ok (.ldaAbsx 0x1234, []) ∧
    decode nops [0x91, 0x10] = .ok (.staIzy 0x10, []) ∧ decode nops [0x0A] = .ok (.aslAcc, []) ∧
    decode nops [0xD0, 0xFE] = .ok (.bne 0xFE, []) ∧ decode nops [0x6C, 0xFF, 0x30] = .ok (.jmpInd 0x30FF, []) ∧
    decode nops [0x20, 0x00, 0x20] = .ok (.jsr 0x2000, []) ∧ decode nops [0x08] = .ok (.php, []) ∧
    decode nops [0x00] = .ok (.brk, []) ∧ decode nops [0xFF] = .error (.unknownOpcode 0xFF) ∧
    (decode nops [0x1A] = .ok (.nopImp1A, []) ↔ (0x1A : Byte) ∈ nops)

/-- HostRead(a) is the byte at a modulo 65536; HostWrite(a, v) with 0 <= v <= 255 sets exactly the byte at a modulo 65536 to v and changes nothing else; with any other v it changes nothing (D23). -/
def Obligations.HostAccessorsMaskAndReject : Prop :=
  ∀ (s : State) (a : Nat) (v : Int),
    s.hostRead a = s.read (BitVec.ofNat 16 (a % 65536)) ∧
    (0 ≤ v → v ≤ 255 → ((s.hostWrite a v).hostRead a).toNat = v.toNat ∧
      (∀ b, b % 65536 ≠ a % 65536 → (s.hostWrite a v).hostRead b = s.hostRead b) ∧
      ∃ m, s.hostWrite a v = { s with mem := m }) ∧
    (v < 0 ∨ 255 < v → s.hostWrite a v = s)

/-- When base + length is at most 65536, after the load the byte at base + i is the i-th byte for every i, every other address reads as the given image, and nothing but memory changes; otherwise the state is unchanged. The image for the cells not covered is an input (D18, log 16); that base 65536 with no bytes counts as a load that fits is the model's choice (log 16). -/
def Obligations.ProgramLoadIsAllOrNothing : Prop :=
  ∀ (s : State) (image : Memory) (base : Nat) (bs : List Byte), let t := s.loadProgram image base bs
    (base + bs.length ≤ 65536 →
      (∀ k v, bs[k]? = some v → t.read (BitVec.ofNat 16 (base + k)) = v) ∧
      (∀ a : Addr, a.toNat < base ∨ base + bs.length ≤ a.toNat → t.read a = image.read a) ∧
      ∃ m, t = { s with mem := m }) ∧
    (65536 < base + bs.length → t = s)

/-- A listing of k + 1 records at a begins with the instruction decoded at a and goes on past its encoding (1 byte for BRK), or, where nothing decodes, with a one-byte data record and goes on at the next address; a listing of k has k records. -/
def Obligations.DisassemblyStepsByDescriptorLength : Prop :=
  ∀ (s : State) (k : Nat) (a : Addr), (s.disassemble k a).length = k ∧
    (∀ i rest, decode s.params.unofficialNops [s.read a, s.read (a + 1), s.read (a + 2)] = .ok (i, rest) →
      s.disassemble (k + 1) a = .instr a i :: s.disassemble k (a + BitVec.ofNat 16 (encode i).length)) ∧
    (∀ why, decode s.params.unofficialNops [s.read a, s.read (a + 1), s.read (a + 2)] = .error why →
      s.disassemble (k + 1) a = .data a (s.read a) :: s.disassemble k (a + 1))
end

