-- ==== Sys2Proof/Laws/State.lean ====
section
/-! SUPPORT. One lemma per field per update of the state, so that no proof unfolds a record update. -/

namespace Sys2Proof.Machine

variable (s : State)

@[simp] theorem State.setA_a (v : Byte) : (s.setA v).a = v := rfl
@[simp] theorem State.setA_x (v : Byte) : (s.setA v).x = s.x := rfl
@[simp] theorem State.setA_y (v : Byte) : (s.setA v).y = s.y := rfl
@[simp] theorem State.setA_pc (v : Byte) : (s.setA v).pc = s.pc := rfl
@[simp] theorem State.setA_sp (v : Byte) : (s.setA v).sp = s.sp := rfl
@[simp] theorem State.setA_p (v : Byte) : (s.setA v).p = s.p := rfl
@[simp] theorem State.setA_cycles (v : Byte) : (s.setA v).cycles = s.cycles := rfl
@[simp] theorem State.setA_halted (v : Byte) : (s.setA v).halted = s.halted := rfl
@[simp] theorem State.setA_haltReason (v : Byte) : (s.setA v).haltReason = s.haltReason := rfl
@[simp] theorem State.setA_mem (v : Byte) : (s.setA v).mem = s.mem := rfl
@[simp] theorem State.setA_params (v : Byte) : (s.setA v).params = s.params := rfl
@[simp] theorem State.setA_flag (v : Byte) (g : Flag) : (s.setA v).flag g = s.flag g := rfl
@[simp] theorem State.setA_readP (v : Byte) : (s.setA v).readP = s.readP := rfl
@[simp] theorem State.setA_read (v : Byte) (c : Addr) : (s.setA v).read c = s.read c := rfl

@[simp] theorem State.setX_a (v : Byte) : (s.setX v).a = s.a := rfl
@[simp] theorem State.setX_x (v : Byte) : (s.setX v).x = v := rfl
@[simp] theorem State.setX_y (v : Byte) : (s.setX v).y = s.y := rfl
@[simp] theorem State.setX_pc (v : Byte) : (s.setX v).pc = s.pc := rfl
@[simp] theorem State.setX_sp (v : Byte) : (s.setX v).sp = s.sp := rfl
@[simp] theorem State.setX_p (v : Byte) : (s.setX v).p = s.p := rfl
@[simp] theorem State.setX_cycles (v : Byte) : (s.setX v).cycles = s.cycles := rfl
@[simp] theorem State.setX_halted (v : Byte) : (s.setX v).halted = s.halted := rfl
@[simp] theorem State.setX_haltReason (v : Byte) : (s.setX v).haltReason = s.haltReason := rfl
@[simp] theorem State.setX_mem (v : Byte) : (s.setX v).mem = s.mem := rfl
@[simp] theorem State.setX_params (v : Byte) : (s.setX v).params = s.params := rfl
@[simp] theorem State.setX_flag (v : Byte) (g : Flag) : (s.setX v).flag g = s.flag g := rfl
@[simp] theorem State.setX_readP (v : Byte) : (s.setX v).readP = s.readP := rfl
@[simp] theorem State.setX_read (v : Byte) (c : Addr) : (s.setX v).read c = s.read c := rfl

@[simp] theorem State.setY_a (v : Byte) : (s.setY v).a = s.a := rfl
@[simp] theorem State.setY_x (v : Byte) : (s.setY v).x = s.x := rfl
@[simp] theorem State.setY_y (v : Byte) : (s.setY v).y = v := rfl
@[simp] theorem State.setY_pc (v : Byte) : (s.setY v).pc = s.pc := rfl
@[simp] theorem State.setY_sp (v : Byte) : (s.setY v).sp = s.sp := rfl
@[simp] theorem State.setY_p (v : Byte) : (s.setY v).p = s.p := rfl
@[simp] theorem State.setY_cycles (v : Byte) : (s.setY v).cycles = s.cycles := rfl
@[simp] theorem State.setY_halted (v : Byte) : (s.setY v).halted = s.halted := rfl
@[simp] theorem State.setY_haltReason (v : Byte) : (s.setY v).haltReason = s.haltReason := rfl
@[simp] theorem State.setY_mem (v : Byte) : (s.setY v).mem = s.mem := rfl
@[simp] theorem State.setY_params (v : Byte) : (s.setY v).params = s.params := rfl
@[simp] theorem State.setY_flag (v : Byte) (g : Flag) : (s.setY v).flag g = s.flag g := rfl
@[simp] theorem State.setY_readP (v : Byte) : (s.setY v).readP = s.readP := rfl
@[simp] theorem State.setY_read (v : Byte) (c : Addr) : (s.setY v).read c = s.read c := rfl

@[simp] theorem State.setSp_a (v : Byte) : (s.setSp v).a = s.a := rfl
@[simp] theorem State.setSp_x (v : Byte) : (s.setSp v).x = s.x := rfl
@[simp] theorem State.setSp_y (v : Byte) : (s.setSp v).y = s.y := rfl
@[simp] theorem State.setSp_pc (v : Byte) : (s.setSp v).pc = s.pc := rfl
@[simp] theorem State.setSp_sp (v : Byte) : (s.setSp v).sp = v := rfl
@[simp] theorem State.setSp_p (v : Byte) : (s.setSp v).p = s.p := rfl
@[simp] theorem State.setSp_cycles (v : Byte) : (s.setSp v).cycles = s.cycles := rfl
@[simp] theorem State.setSp_halted (v : Byte) : (s.setSp v).halted = s.halted := rfl
@[simp] theorem State.setSp_haltReason (v : Byte) : (s.setSp v).haltReason = s.haltReason := rfl
@[simp] theorem State.setSp_mem (v : Byte) : (s.setSp v).mem = s.mem := rfl
@[simp] theorem State.setSp_params (v : Byte) : (s.setSp v).params = s.params := rfl
@[simp] theorem State.setSp_flag (v : Byte) (g : Flag) : (s.setSp v).flag g = s.flag g := rfl
@[simp] theorem State.setSp_readP (v : Byte) : (s.setSp v).readP = s.readP := rfl
@[simp] theorem State.setSp_read (v : Byte) (c : Addr) : (s.setSp v).read c = s.read c := rfl

@[simp] theorem State.setPc_a (w : Addr) : (s.setPc w).a = s.a := rfl
@[simp] theorem State.setPc_x (w : Addr) : (s.setPc w).x = s.x := rfl
@[simp] theorem State.setPc_y (w : Addr) : (s.setPc w).y = s.y := rfl
@[simp] theorem State.setPc_pc (w : Addr) : (s.setPc w).pc = w := rfl
@[simp] theorem State.setPc_sp (w : Addr) : (s.setPc w).sp = s.sp := rfl
@[simp] theorem State.setPc_p (w : Addr) : (s.setPc w).p = s.p := rfl
@[simp] theorem State.setPc_cycles (w : Addr) : (s.setPc w).cycles = s.cycles := rfl
@[simp] theorem State.setPc_halted (w : Addr) : (s.setPc w).halted = s.halted := rfl
@[simp] theorem State.setPc_haltReason (w : Addr) : (s.setPc w).haltReason = s.haltReason := rfl
@[simp] theorem State.setPc_mem (w : Addr) : (s.setPc w).mem = s.mem := rfl
@[simp] theorem State.setPc_params (w : Addr) : (s.setPc w).params = s.params := rfl
@[simp] theorem State.setPc_flag (w : Addr) (g : Flag) : (s.setPc w).flag g = s.flag g := rfl
@[simp] theorem State.setPc_readP (w : Addr) : (s.setPc w).readP = s.readP := rfl
@[simp] theorem State.setPc_read (w : Addr) (c : Addr) : (s.setPc w).read c = s.read c := rfl

@[simp] theorem State.addCycles_a (k : Nat) : (s.addCycles k).a = s.a := rfl
@[simp] theorem State.addCycles_x (k : Nat) : (s.addCycles k).x = s.x := rfl
@[simp] theorem State.addCycles_y (k : Nat) : (s.addCycles k).y = s.y := rfl
@[simp] theorem State.addCycles_pc (k : Nat) : (s.addCycles k).pc = s.pc := rfl
@[simp] theorem State.addCycles_sp (k : Nat) : (s.addCycles k).sp = s.sp := rfl
@[simp] theorem State.addCycles_p (k : Nat) : (s.addCycles k).p = s.p := rfl
@[simp] theorem State.addCycles_cycles (k : Nat) : (s.addCycles k).cycles = s.cycles + k := rfl
@[simp] theorem State.addCycles_halted (k : Nat) : (s.addCycles k).halted = s.halted := rfl
@[simp] theorem State.addCycles_haltReason (k : Nat) : (s.addCycles k).haltReason = s.haltReason := rfl
@[simp] theorem State.addCycles_mem (k : Nat) : (s.addCycles k).mem = s.mem := rfl
@[simp] theorem State.addCycles_params (k : Nat) : (s.addCycles k).params = s.params := rfl
@[simp] theorem State.addCycles_flag (k : Nat) (g : Flag) : (s.addCycles k).flag g = s.flag g := rfl
@[simp] theorem State.addCycles_readP (k : Nat) : (s.addCycles k).readP = s.readP := rfl
@[simp] theorem State.addCycles_read (k : Nat) (c : Addr) : (s.addCycles k).read c = s.read c := rfl

@[simp] theorem State.write_a (b : Addr) (v : Byte) : (s.write b v).a = s.a := rfl
@[simp] theorem State.write_x (b : Addr) (v : Byte) : (s.write b v).x = s.x := rfl
@[simp] theorem State.write_y (b : Addr) (v : Byte) : (s.write b v).y = s.y := rfl
@[simp] theorem State.write_pc (b : Addr) (v : Byte) : (s.write b v).pc = s.pc := rfl
@[simp] theorem State.write_sp (b : Addr) (v : Byte) : (s.write b v).sp = s.sp := rfl
@[simp] theorem State.write_p (b : Addr) (v : Byte) : (s.write b v).p = s.p := rfl
@[simp] theorem State.write_cycles (b : Addr) (v : Byte) : (s.write b v).cycles = s.cycles := rfl
@[simp] theorem State.write_halted (b : Addr) (v : Byte) : (s.write b v).halted = s.halted := rfl
@[simp] theorem State.write_haltReason (b : Addr) (v : Byte) : (s.write b v).haltReason = s.haltReason := rfl
@[simp] theorem State.write_mem (b : Addr) (v : Byte) : (s.write b v).mem = s.mem.write b v := rfl
@[simp] theorem State.write_params (b : Addr) (v : Byte) : (s.write b v).params = s.params := rfl
@[simp] theorem State.write_flag (b : Addr) (v : Byte) (g : Flag) : (s.write b v).flag g = s.flag g := rfl
@[simp] theorem State.write_readP (b : Addr) (v : Byte) : (s.write b v).readP = s.readP := rfl

@[simp] theorem State.writeP_a (v : Byte) : (s.writeP v).a = s.a := rfl
@[simp] theorem State.writeP_x (v : Byte) : (s.writeP v).x = s.x := rfl
@[simp] theorem State.writeP_y (v : Byte) : (s.writeP v).y = s.y := rfl
@[simp] theorem State.writeP_pc (v : Byte) : (s.writeP v).pc = s.pc := rfl
@[simp] theorem State.writeP_sp (v : Byte) : (s.writeP v).sp = s.sp := rfl
@[simp] theorem State.writeP_p (v : Byte) : (s.writeP v).p = v ||| 0x20 := rfl
@[simp] theorem State.writeP_cycles (v : Byte) : (s.writeP v).cycles = s.cycles := rfl
@[simp] theorem State.writeP_halted (v : Byte) : (s.writeP v).halted = s.halted := rfl
@[simp] theorem State.writeP_haltReason (v : Byte) : (s.writeP v).haltReason = s.haltReason := rfl
@[simp] theorem State.writeP_mem (v : Byte) : (s.writeP v).mem = s.mem := rfl
@[simp] theorem State.writeP_params (v : Byte) : (s.writeP v).params = s.params := rfl
@[simp] theorem State.writeP_read (v : Byte) (c : Addr) : (s.writeP v).read c = s.read c := rfl

@[simp] theorem State.setFlag_a (f : Flag) (on : Bool) : (s.setFlag f on).a = s.a := rfl
@[simp] theorem State.setFlag_x (f : Flag) (on : Bool) : (s.setFlag f on).x = s.x := rfl
@[simp] theorem State.setFlag_y (f : Flag) (on : Bool) : (s.setFlag f on).y = s.y := rfl
@[simp] theorem State.setFlag_pc (f : Flag) (on : Bool) : (s.setFlag f on).pc = s.pc := rfl
@[simp] theorem State.setFlag_sp (f : Flag) (on : Bool) : (s.setFlag f on).sp = s.sp := rfl
@[simp] theorem State.setFlag_cycles (f : Flag) (on : Bool) : (s.setFlag f on).cycles = s.cycles := rfl
@[simp] theorem State.setFlag_halted (f : Flag) (on : Bool) : (s.setFlag f on).halted = s.halted := rfl
@[simp] theorem State.setFlag_haltReason (f : Flag) (on : Bool) : (s.setFlag f on).haltReason = s.haltReason := rfl
@[simp] theorem State.setFlag_mem (f : Flag) (on : Bool) : (s.setFlag f on).mem = s.mem := rfl
@[simp] theorem State.setFlag_params (f : Flag) (on : Bool) : (s.setFlag f on).params = s.params := rfl
@[simp] theorem State.setFlag_read (f : Flag) (on : Bool) (c : Addr) : (s.setFlag f on).read c = s.read c := rfl

@[simp] theorem State.setZN_a (v : Byte) : (s.setZN v).a = s.a := rfl
@[simp] theorem State.setZN_x (v : Byte) : (s.setZN v).x = s.x := rfl
@[simp] theorem State.setZN_y (v : Byte) : (s.setZN v).y = s.y := rfl
@[simp] theorem State.setZN_pc (v : Byte) : (s.setZN v).pc = s.pc := rfl
@[simp] theorem State.setZN_sp (v : Byte) : (s.setZN v).sp = s.sp := rfl
@[simp] theorem State.setZN_cycles (v : Byte) : (s.setZN v).cycles = s.cycles := rfl
@[simp] theorem State.setZN_halted (v : Byte) : (s.setZN v).halted = s.halted := rfl
@[simp] theorem State.setZN_haltReason (v : Byte) : (s.setZN v).haltReason = s.haltReason := rfl
@[simp] theorem State.setZN_mem (v : Byte) : (s.setZN v).mem = s.mem := rfl
@[simp] theorem State.setZN_params (v : Byte) : (s.setZN v).params = s.params := rfl
@[simp] theorem State.setZN_read (v : Byte) (c : Addr) : (s.setZN v).read c = s.read c := rfl

@[simp] theorem State.compare_a (r m : Byte) : (s.compare r m).a = s.a := rfl
@[simp] theorem State.compare_x (r m : Byte) : (s.compare r m).x = s.x := rfl
@[simp] theorem State.compare_y (r m : Byte) : (s.compare r m).y = s.y := rfl
@[simp] theorem State.compare_pc (r m : Byte) : (s.compare r m).pc = s.pc := rfl
@[simp] theorem State.compare_sp (r m : Byte) : (s.compare r m).sp = s.sp := rfl
@[simp] theorem State.compare_cycles (r m : Byte) : (s.compare r m).cycles = s.cycles := rfl
@[simp] theorem State.compare_halted (r m : Byte) : (s.compare r m).halted = s.halted := rfl
@[simp] theorem State.compare_haltReason (r m : Byte) : (s.compare r m).haltReason = s.haltReason := rfl
@[simp] theorem State.compare_mem (r m : Byte) : (s.compare r m).mem = s.mem := rfl
@[simp] theorem State.compare_params (r m : Byte) : (s.compare r m).params = s.params := rfl
@[simp] theorem State.compare_read (r m : Byte) (c : Addr) : (s.compare r m).read c = s.read c := rfl

@[simp] theorem State.raiseHalt_a (why : HaltReason) : (s.raiseHalt why).a = s.a := rfl
@[simp] theorem State.raiseHalt_x (why : HaltReason) : (s.raiseHalt why).x = s.x := rfl
@[simp] theorem State.raiseHalt_y (why : HaltReason) : (s.raiseHalt why).y = s.y := rfl
@[simp] theorem State.raiseHalt_pc (why : HaltReason) : (s.raiseHalt why).pc = s.pc := rfl
@[simp] theorem State.raiseHalt_sp (why : HaltReason) : (s.raiseHalt why).sp = s.sp := rfl
@[simp] theorem State.raiseHalt_p (why : HaltReason) : (s.raiseHalt why).p = s.p := rfl
@[simp] theorem State.raiseHalt_cycles (why : HaltReason) : (s.raiseHalt why).cycles = s.cycles := rfl
@[simp] theorem State.raiseHalt_halted (why : HaltReason) : (s.raiseHalt why).halted = true := rfl
@[simp] theorem State.raiseHalt_haltReason (why : HaltReason) : (s.raiseHalt why).haltReason = why := rfl
@[simp] theorem State.raiseHalt_mem (why : HaltReason) : (s.raiseHalt why).mem = s.mem := rfl
@[simp] theorem State.raiseHalt_params (why : HaltReason) : (s.raiseHalt why).params = s.params := rfl
@[simp] theorem State.raiseHalt_flag (why : HaltReason) (g : Flag) : (s.raiseHalt why).flag g = s.flag g := rfl
@[simp] theorem State.raiseHalt_readP (why : HaltReason) : (s.raiseHalt why).readP = s.readP := rfl
@[simp] theorem State.raiseHalt_read (why : HaltReason) (c : Addr) : (s.raiseHalt why).read c = s.read c := rfl

@[simp] theorem State.account_a (d : Descriptor) (crossed : Bool) : (s.account d crossed).a = s.a := rfl
@[simp] theorem State.account_x (d : Descriptor) (crossed : Bool) : (s.account d crossed).x = s.x := rfl
@[simp] theorem State.account_y (d : Descriptor) (crossed : Bool) : (s.account d crossed).y = s.y := rfl
@[simp] theorem State.account_pc (d : Descriptor) (crossed : Bool) : (s.account d crossed).pc = s.pc := rfl
@[simp] theorem State.account_sp (d : Descriptor) (crossed : Bool) : (s.account d crossed).sp = s.sp := rfl
@[simp] theorem State.account_p (d : Descriptor) (crossed : Bool) : (s.account d crossed).p = s.p := rfl
@[simp] theorem State.account_cycles (d : Descriptor) (crossed : Bool) : (s.account d crossed).cycles = s.cycles + (d.baseCycles + (d.pageCrossExtra && crossed).toNat) := rfl
@[simp] theorem State.account_halted (d : Descriptor) (crossed : Bool) : (s.account d crossed).halted = s.halted := rfl
@[simp] theorem State.account_haltReason (d : Descriptor) (crossed : Bool) : (s.account d crossed).haltReason = s.haltReason := rfl
@[simp] theorem State.account_mem (d : Descriptor) (crossed : Bool) : (s.account d crossed).mem = s.mem := rfl
@[simp] theorem State.account_params (d : Descriptor) (crossed : Bool) : (s.account d crossed).params = s.params := rfl
@[simp] theorem State.account_flag (d : Descriptor) (crossed : Bool) (g : Flag) : (s.account d crossed).flag g = s.flag g := rfl
@[simp] theorem State.account_readP (d : Descriptor) (crossed : Bool) : (s.account d crossed).readP = s.readP := rfl
@[simp] theorem State.account_read (d : Descriptor) (crossed : Bool) (c : Addr) : (s.account d crossed).read c = s.read c := rfl

@[simp] theorem State.push_a (v : Byte) : (s.push v).a = s.a := rfl
@[simp] theorem State.push_x (v : Byte) : (s.push v).x = s.x := rfl
@[simp] theorem State.push_y (v : Byte) : (s.push v).y = s.y := rfl
@[simp] theorem State.push_pc (v : Byte) : (s.push v).pc = s.pc := rfl
@[simp] theorem State.push_sp (v : Byte) : (s.push v).sp = s.sp - 1 := rfl
@[simp] theorem State.push_p (v : Byte) : (s.push v).p = s.p := rfl
@[simp] theorem State.push_cycles (v : Byte) : (s.push v).cycles = s.cycles := rfl
@[simp] theorem State.push_halted (v : Byte) : (s.push v).halted = s.halted := rfl
@[simp] theorem State.push_haltReason (v : Byte) : (s.push v).haltReason = s.haltReason := rfl
@[simp] theorem State.push_mem (v : Byte) : (s.push v).mem = s.mem.write (stackAddr s.sp) v := rfl
@[simp] theorem State.push_params (v : Byte) : (s.push v).params = s.params := rfl
@[simp] theorem State.push_flag (v : Byte) (g : Flag) : (s.push v).flag g = s.flag g := rfl
@[simp] theorem State.push_readP (v : Byte) : (s.push v).readP = s.readP := rfl

@[simp] theorem State.push16_a (w : Addr) : (s.push16 w).a = s.a := rfl
@[simp] theorem State.push16_x (w : Addr) : (s.push16 w).x = s.x := rfl
@[simp] theorem State.push16_y (w : Addr) : (s.push16 w).y = s.y := rfl
@[simp] theorem State.push16_pc (w : Addr) : (s.push16 w).pc = s.pc := rfl
@[simp] theorem State.push16_sp (w : Addr) : (s.push16 w).sp = s.sp - 1 - 1 := rfl
@[simp] theorem State.push16_p (w : Addr) : (s.push16 w).p = s.p := rfl
@[simp] theorem State.push16_cycles (w : Addr) : (s.push16 w).cycles = s.cycles := rfl
@[simp] theorem State.push16_halted (w : Addr) : (s.push16 w).halted = s.halted := rfl
@[simp] theorem State.push16_haltReason (w : Addr) : (s.push16 w).haltReason = s.haltReason := rfl
@[simp] theorem State.push16_mem (w : Addr) : (s.push16 w).mem = (s.mem.write (stackAddr s.sp) (highByte w)).write (stackAddr (s.sp - 1)) (lowByte w) := rfl
@[simp] theorem State.push16_params (w : Addr) : (s.push16 w).params = s.params := rfl
@[simp] theorem State.push16_flag (w : Addr) (g : Flag) : (s.push16 w).flag g = s.flag g := rfl
@[simp] theorem State.push16_readP (w : Addr) : (s.push16 w).readP = s.readP := rfl

@[simp] theorem State.pulled_a : (s.pulled).a = s.a := rfl
@[simp] theorem State.pulled_x : (s.pulled).x = s.x := rfl
@[simp] theorem State.pulled_y : (s.pulled).y = s.y := rfl
@[simp] theorem State.pulled_pc : (s.pulled).pc = s.pc := rfl
@[simp] theorem State.pulled_sp : (s.pulled).sp = s.sp + 1 := rfl
@[simp] theorem State.pulled_p : (s.pulled).p = s.p := rfl
@[simp] theorem State.pulled_cycles : (s.pulled).cycles = s.cycles := rfl
@[simp] theorem State.pulled_halted : (s.pulled).halted = s.halted := rfl
@[simp] theorem State.pulled_haltReason : (s.pulled).haltReason = s.haltReason := rfl
@[simp] theorem State.pulled_mem : (s.pulled).mem = s.mem := rfl
@[simp] theorem State.pulled_params : (s.pulled).params = s.params := rfl
@[simp] theorem State.pulled_flag (g : Flag) : (s.pulled).flag g = s.flag g := rfl
@[simp] theorem State.pulled_readP : (s.pulled).readP = s.readP := rfl
@[simp] theorem State.pulled_read (c : Addr) : (s.pulled).read c = s.read c := rfl

@[simp] theorem State.skipByte_a : (s.skipByte).a = s.a := rfl
@[simp] theorem State.skipByte_x : (s.skipByte).x = s.x := rfl
@[simp] theorem State.skipByte_y : (s.skipByte).y = s.y := rfl
@[simp] theorem State.skipByte_pc : (s.skipByte).pc = s.pc + 1 := rfl
@[simp] theorem State.skipByte_sp : (s.skipByte).sp = s.sp := rfl
@[simp] theorem State.skipByte_p : (s.skipByte).p = s.p := rfl
@[simp] theorem State.skipByte_cycles : (s.skipByte).cycles = s.cycles := rfl
@[simp] theorem State.skipByte_halted : (s.skipByte).halted = s.halted := rfl
@[simp] theorem State.skipByte_haltReason : (s.skipByte).haltReason = s.haltReason := rfl
@[simp] theorem State.skipByte_mem : (s.skipByte).mem = s.mem := rfl
@[simp] theorem State.skipByte_params : (s.skipByte).params = s.params := rfl
@[simp] theorem State.skipByte_flag (g : Flag) : (s.skipByte).flag g = s.flag g := rfl
@[simp] theorem State.skipByte_readP : (s.skipByte).readP = s.readP := rfl
@[simp] theorem State.skipByte_read (c : Addr) : (s.skipByte).read c = s.read c := rfl

@[simp] theorem State.pullP_a : (s.pullP).a = s.a := rfl
@[simp] theorem State.pullP_x : (s.pullP).x = s.x := rfl
@[simp] theorem State.pullP_y : (s.pullP).y = s.y := rfl
@[simp] theorem State.pullP_pc : (s.pullP).pc = s.pc := rfl
@[simp] theorem State.pullP_sp : (s.pullP).sp = s.sp + 1 := rfl
@[simp] theorem State.pullP_p : (s.pullP).p = pulledP s.params.pullB s.p s.pull ||| 0x20 := rfl
@[simp] theorem State.pullP_cycles : (s.pullP).cycles = s.cycles := rfl
@[simp] theorem State.pullP_halted : (s.pullP).halted = s.halted := rfl
@[simp] theorem State.pullP_haltReason : (s.pullP).haltReason = s.haltReason := rfl
@[simp] theorem State.pullP_mem : (s.pullP).mem = s.mem := rfl
@[simp] theorem State.pullP_params : (s.pullP).params = s.params := rfl
@[simp] theorem State.pullP_read (c : Addr) : (s.pullP).read c = s.read c := rfl

@[simp] theorem State.pastOperands_pc (i : Instr) :
    (s.pastOperands i).pc = s.pc + BitVec.ofNat 16 (fetchedBytes i) := rfl
@[simp] theorem State.haltedStep_eq : s.haltedStep = s := rfl
@[simp] theorem State.rejected_eq (why : Reject) : s.rejected why = s.haltUnknown := rfl

end Sys2Proof.Machine
end

