-- ==== Sys2Proof/Laws/Flags.lean ====
section
/-! SUPPORT. What a write of P and of one flag changes, read through `State.flag` and `State.readP`. -/

namespace Sys2Proof.Machine

theorem oneBit_getLsbD (k j : Nat) (hj : j < 8) : (1#8 <<< k).getLsbD j = decide (j = k) := by
  simp only [BitVec.getLsbD_shiftLeft, hj, decide_true, Bool.true_and, BitVec.getLsbD_one]
  by_cases h : j = k
  · simp [h]
  · simp only [h, decide_false, Bool.and_eq_false_imp, Bool.not_eq_true', decide_eq_false_iff_not]
    omega

theorem setBit_getLsbD (v : Byte) (k j : Nat) (on : Bool) (hj : j < 8) :
    (setBit v k on).getLsbD j = if j = k then on else v.getLsbD j := by
  unfold setBit
  cases on
  · simp only [Bool.false_eq_true, ↓reduceIte, BitVec.getLsbD_and, BitVec.getLsbD_not, oneBit_getLsbD _ _ hj, hj,
      decide_true, Bool.true_and]
    by_cases h : j = k <;> simp only [h, decide_true, decide_false, Bool.not_true, Bool.not_false, Bool.and_false,
      Bool.and_true, ↓reduceIte]
  · simp only [↓reduceIte, BitVec.getLsbD_or, oneBit_getLsbD _ _ hj]
    by_cases h : j = k <;> simp only [h, decide_true, decide_false, Bool.or_true, Bool.or_false, ↓reduceIte]

theorem flagBit_inj (f g : Flag) : flagBit f = flagBit g ↔ f = g := by
  cases f <;> cases g <;> decide

theorem flagBit_lt (f : Flag) : flagBit f < 8 := by
  cases f <;> decide

theorem flagBit_ne_five (f : Flag) : flagBit f ≠ 5 := by
  cases f <;> decide

/-- Bit `j` of a byte with bit 5 forced to 1. -/
theorem orUnused_getLsbD (v : Byte) (j : Nat) : (v ||| 0x20).getLsbD j = (v.getLsbD j || decide (j = 5)) := by
  have : (0x20 : Byte).getLsbD j = decide (j = 5) := by
    by_cases hj : j < 8
    · interval_cases j <;> rfl
    · rw [BitVec.getLsbD_of_ge _ _ (by omega)]; simp; omega
  rw [BitVec.getLsbD_or, this]

@[simp] theorem State.writeP_flag (s : State) (v : Byte) (f : Flag) :
    (s.writeP v).flag f = v.getLsbD (flagBit f) := by
  simp only [State.flag, State.writeP_p, orUnused_getLsbD, flagBit_ne_five, decide_false, Bool.or_false]

theorem State.writeP_unused (s : State) (v : Byte) : (s.writeP v).p.getLsbD 5 = true := by
  simp only [State.writeP_p, orUnused_getLsbD, decide_true, Bool.or_true]

/-- P reads bit 5 as 1 in every state (R37). -/
theorem State.readP_unused (s : State) : s.readP.getLsbD 5 = true := by
  simp only [State.readP, orUnused_getLsbD, decide_true, Bool.or_true]

@[simp] theorem State.readP_flag (s : State) (f : Flag) : s.readP.getLsbD (flagBit f) = s.flag f := by
  simp only [State.readP, State.flag, orUnused_getLsbD, flagBit_ne_five, decide_false, Bool.or_false]

@[simp] theorem State.setFlag_flag (s : State) (f g : Flag) (on : Bool) :
    (s.setFlag f on).flag g = if g = f then on else s.flag g := by
  rw [State.setFlag, State.writeP_flag, setBit_getLsbD _ _ _ _ (flagBit_lt g)]
  simp only [flagBit_inj, State.flag]

theorem State.setFlag_unused (s : State) (f : Flag) (on : Bool) :
    (s.setFlag f on).p.getLsbD 5 = true :=
  State.writeP_unused ..

@[simp] theorem State.setZN_flag (s : State) (v : Byte) (g : Flag) :
    (s.setZN v).flag g = if g = .n then v.getLsbD 7 else if g = .z then v == 0 else s.flag g := by
  simp only [State.setZN, State.setFlag_flag]

theorem State.setZN_unused (s : State) (v : Byte) : (s.setZN v).p.getLsbD 5 = true :=
  State.setFlag_unused ..

@[simp] theorem State.compare_flag (s : State) (r m : Byte) (g : Flag) :
    (s.compare r m).flag g = if g = .n then (r - m).getLsbD 7 else if g = .z then r - m == 0
      else if g = .c then decide (m.toNat ≤ r.toNat) else s.flag g := by
  simp only [State.compare, State.setZN_flag, State.setFlag_flag]

theorem State.compare_unused (s : State) (r m : Byte) : (s.compare r m).p.getLsbD 5 = true :=
  State.setZN_unused ..

/-- The byte a pull leaves in P: every flag but B from the stack, B as PULL_B says (R265). -/
theorem pulledP_getLsbD (how : PullB) (old v : Byte) (f : Flag) :
    (pulledP how old v).getLsbD (flagBit f) =
      if f = .b then (if how = .keep then old.getLsbD 4 else false) else v.getLsbD (flagBit f) := by
  have hb : ∀ g : Flag, flagBit g = 4 ↔ g = .b := fun g => by cases g <;> decide
  cases how <;>
    simp only [pulledP, setBit_getLsbD _ _ _ _ (flagBit_lt f), hb, orUnused_getLsbD, flagBit_ne_five, decide_false,
      Bool.or_false, reduceCtorEq, ↓reduceIte]

@[simp] theorem State.pullP_flag (s : State) (f : Flag) :
    s.pullP.flag f =
      if f = .b then (if s.params.pullB = .keep then s.flag .b else false) else s.pull.getLsbD (flagBit f) := by
  simp only [State.pullP, State.writeP_flag, pulledP_getLsbD]
  rfl

theorem State.pullP_unused (s : State) : s.pullP.p.getLsbD 5 = true :=
  State.writeP_unused ..

/-! The same bit in simp's normal form for a literal index. -/

@[simp] theorem State.readP_bit5 (s : State) : s.readP[5] = true := s.readP_unused
@[simp] theorem State.setFlag_bit5 (s : State) (f : Flag) (on : Bool) : (s.setFlag f on).p[5] = true :=
  s.setFlag_unused f on
@[simp] theorem State.setZN_bit5 (s : State) (v : Byte) : (s.setZN v).p[5] = true := s.setZN_unused v
@[simp] theorem State.compare_bit5 (s : State) (r m : Byte) : (s.compare r m).p[5] = true := s.compare_unused r m

end Sys2Proof.Machine
end

