-- ==== Sys2Proof/Laws/Memory.lean ====
section
/-! SUPPORT. The laws of memory: what a read sees after a write, and that every memory operation keeps the canonical form. -/

namespace Sys2Proof.Machine

theorem Memory.read_erase (m : Memory) (k : Nat) (b : Addr) :
    (m.erase k).read b = if b.toNat = k then unlistedByte else m.read b := by
  induction m with
  | nil => simp [Memory.erase, Memory.read]
  | cons c m ih =>
    obtain ⟨j, w⟩ := c
    simp only [Memory.erase, List.filter_cons, bne_iff_ne, ne_eq] at ih ⊢
    by_cases hj : j = k
    · subst hj
      simp only [not_true_eq_false, ↓reduceIte, ih, Memory.read]
      split <;> simp_all [eq_comm]
    · simp only [hj, not_false_eq_true, ↓reduceIte, Memory.read, ih]
      split <;> simp_all

theorem Memory.read_insert (m : Memory) (k : Nat) (v : Byte) (b : Addr) (h : ∀ c ∈ m, c.1 ≠ k) :
    (m.insert k v).read b = if b.toNat = k then v else m.read b := by
  induction m with
  | nil => simp [Memory.insert, Memory.read, eq_comm]
  | cons c m ih =>
    obtain ⟨j, w⟩ := c
    have hj : j ≠ k := h _ (List.mem_cons_self ..)
    have ih' := ih fun c hc => h c (List.mem_cons_of_mem _ hc)
    simp only [Memory.insert]
    split
    · simp [Memory.read, eq_comm]
    · simp only [Memory.read, ih']
      split <;> simp_all

theorem Memory.ne_of_mem_erase (m : Memory) (k : Nat) : ∀ c ∈ m.erase k, c.1 ≠ k := by
  simp [Memory.erase]

/-- A read after a write: the value at the written address, and every other address as before. -/
@[simp] theorem Memory.read_write (m : Memory) (a : Addr) (v : Byte) (b : Addr) :
    (m.write a v).read b = if b = a then v else m.read b := by
  unfold Memory.write
  split
  · simp [Memory.read_erase, BitVec.toNat_inj, *]
  · rw [Memory.read_insert _ _ _ _ (m.ne_of_mem_erase _), Memory.read_erase]
    by_cases h : b = a <;> simp [h, BitVec.toNat_inj]

theorem Memory.wfFrom_mono (m : Memory) (lo lo' : Nat) (hle : lo' ≤ lo) (h : Memory.wfFrom lo m = true) :
    Memory.wfFrom lo' m = true := by
  cases m with
  | nil => rfl
  | cons c m =>
    simp only [Memory.wfFrom, Bool.and_eq_true, decide_eq_true_eq] at h ⊢
    exact ⟨⟨⟨by omega, h.1.1.2⟩, h.1.2⟩, h.2⟩

theorem Memory.wfFrom_erase (m : Memory) (k lo : Nat) (h : Memory.wfFrom lo m = true) :
    Memory.wfFrom lo (m.erase k) = true := by
  induction m generalizing lo with
  | nil => rfl
  | cons c m ih =>
    simp only [Memory.wfFrom, Bool.and_eq_true, decide_eq_true_eq] at h
    have hm := ih _ h.2
    simp only [Memory.erase, List.filter_cons] at hm ⊢
    split
    · simp only [Memory.wfFrom, Bool.and_eq_true, decide_eq_true_eq]
      exact ⟨h.1, hm⟩
    · exact Memory.wfFrom_mono _ _ _ (by omega) hm

theorem Memory.wfFrom_insert (m : Memory) (k lo : Nat) (v : Byte) (hlo : lo ≤ k) (hk : k < 65536)
    (hv : v ≠ unlistedByte) (hne : ∀ c ∈ m, c.1 ≠ k) (h : Memory.wfFrom lo m = true) :
    Memory.wfFrom lo (m.insert k v) = true := by
  induction m generalizing lo with
  | nil => simp [Memory.insert, Memory.wfFrom, hlo, hk, hv]
  | cons c m ih =>
    simp only [Memory.wfFrom, Bool.and_eq_true, decide_eq_true_eq, bne_iff_ne, ne_eq] at h
    have hj : c.1 ≠ k := hne _ (List.mem_cons_self ..)
    simp only [Memory.insert]
    split
    · simp only [Memory.wfFrom, Bool.and_eq_true, decide_eq_true_eq, bne_iff_ne, ne_eq]
      exact ⟨⟨⟨hlo, hk⟩, hv⟩, ⟨⟨by omega, h.1.1.2⟩, h.1.2⟩, h.2⟩
    · simp only [Memory.wfFrom, Bool.and_eq_true, decide_eq_true_eq, bne_iff_ne, ne_eq]
      exact ⟨h.1, ih _ (by omega) (fun c hc => hne c (List.mem_cons_of_mem _ hc)) h.2⟩

/-- A write keeps the canonical form. -/
theorem Memory.wf_write (m : Memory) (a : Addr) (v : Byte) (h : m.wf = true) : (m.write a v).wf = true := by
  unfold Memory.write
  split
  · exact Memory.wfFrom_erase _ _ _ h
  · exact Memory.wfFrom_insert _ _ _ _ (Nat.zero_le _) a.isLt ‹_› (m.ne_of_mem_erase _) (Memory.wfFrom_erase _ _ _ h)

/-- Storing a run of bytes keeps the canonical form. -/
theorem Memory.wf_store (m : Memory) (a : Addr) (vs : List Byte) (h : m.wf = true) : (m.store a vs).wf = true := by
  induction vs generalizing m a with
  | nil => exact h
  | cons v vs ih => exact ih _ _ (m.wf_write a v h)

@[simp] theorem launchMemory_wf : launchMemory.wf = true := rfl

/-- The memory of `State.reset` has the canonical form. -/
theorem State.reset_mem_wf : State.reset.mem.wf = true := rfl

/-- A host write keeps the canonical form. -/
theorem State.hostWrite_wf (s : State) (a : Nat) (v : Int) (h : s.mem.wf = true) : (s.hostWrite a v).mem.wf = true := by
  unfold State.hostWrite
  split
  · exact s.mem.wf_write _ _ h
  · exact h

/-- A load over a canonical image keeps the canonical form. -/
theorem State.loadProgram_wf (s : State) (rest : Memory) (base : Nat) (bs : List Byte)
    (hs : s.mem.wf = true) (hr : rest.wf = true) : (s.loadProgram rest base bs).mem.wf = true := by
  unfold State.loadProgram
  split
  · exact rest.wf_store _ _ hr
  · exact hs

end Sys2Proof.Machine
end

