-- ==== Sys2Proof/Laws/Word.lean ====
section
/-! SUPPORT. The byte-order and width helpers as arithmetic. -/

namespace Sys2Proof

@[simp] theorem hiLo_toNat (hi lo : Byte) : (hiLo hi lo).toNat = hi.toNat * 256 + lo.toNat := by
  have h : (hiLo hi lo).toNat = hi.toNat <<< 8 ||| lo.toNat := BitVec.toNat_append hi lo
  rw [h, ← Nat.shiftLeft_add_eq_or_of_lt lo.isLt, Nat.shiftLeft_eq]

@[simp] theorem lowByte_toNat (w : Addr) : (lowByte w).toNat = w.toNat % 256 := by
  simp [lowByte, BitVec.extractLsb'_toNat]

@[simp] theorem highByte_toNat (w : Addr) : (highByte w).toNat = w.toNat / 256 := by
  have := w.isLt
  simp [highByte, BitVec.extractLsb'_toNat, Nat.shiftRight_eq_div_pow]
  omega

@[simp] theorem zext16_toNat (v : Byte) : (zext16 v).toNat = v.toNat := by
  have := v.isLt
  simp [zext16]
  omega

@[simp] theorem lowByte_hiLo (hi lo : Byte) : lowByte (hiLo hi lo) = lo := by
  have := lo.isLt
  apply BitVec.eq_of_toNat_eq
  simp
  omega

@[simp] theorem highByte_hiLo (hi lo : Byte) : highByte (hiLo hi lo) = hi := by
  have := lo.isLt
  apply BitVec.eq_of_toNat_eq
  simp
  omega

@[simp] theorem hiLo_bytes (w : Addr) : hiLo (highByte w) (lowByte w) = w := by
  apply BitVec.eq_of_toNat_eq
  simp
  omega

end Sys2Proof
end

