-- ==== Sys2Proof/Laws/Ops.lean ====
section
/-! SUPPORT. For each shared operation, once, everything it can do: what a read, a flag, the stack and the counter are after it,
and what an instruction of each shape answers. -/

namespace Sys2Proof.Machine

@[simp] theorem State.write_read (s : State) (b : Addr) (v : Byte) (c : Addr) :
    (s.write b v).read c = if c = b then v else s.read c := Memory.read_write ..

/-! ## The stack -/

@[simp] theorem stackAddr_toNat (sp : Byte) : (stackAddr sp).toNat = 256 + sp.toNat := by
  have := sp.isLt
  rw [stackAddr, BitVec.toNat_add, zext16_toNat]
  have h : Config.stackPage.toNat = 256 := rfl
  omega

@[simp] theorem stackAddr_inj (p q : Byte) : stackAddr p = stackAddr q ↔ p = q := by
  simp only [← BitVec.toNat_inj, stackAddr_toNat, Nat.add_left_cancel_iff]

@[simp] theorem State.push_read (s : State) (v : Byte) (c : Addr) :
    (s.push v).read c = if c = stackAddr s.sp then v else s.read c := State.write_read ..

@[simp] theorem State.push16_read (s : State) (w : Addr) (c : Addr) :
    (s.push16 w).read c =
      if c = stackAddr (s.sp - 1) then lowByte w else if c = stackAddr s.sp then highByte w else s.read c := by
  simp only [State.push16, State.push_read, State.push_sp]

/-- What was pushed last is pulled first. -/
@[simp] theorem State.push_pull (s : State) (v : Byte) : (s.push v).pull = v := by
  simp [State.pull]

/-! ## Halting, break, return from interrupt, reset -/

@[simp] theorem State.enterBreak_pc (s : State) : s.enterBreak.pc = s.pc := by simp [State.enterBreak]
@[simp] theorem State.enterBreak_sp (s : State) : s.enterBreak.sp = s.sp - 1 - 1 - 1 := by simp [State.enterBreak]
@[simp] theorem State.enterBreak_halted (s : State) : s.enterBreak.halted = true := by simp [State.enterBreak]
@[simp] theorem State.enterBreak_haltReason (s : State) : s.enterBreak.haltReason = .brk := by simp [State.enterBreak]
@[simp] theorem State.enterBreak_params (s : State) : s.enterBreak.params = s.params := by simp [State.enterBreak]
@[simp] theorem State.enterBreak_cycles (s : State) : s.enterBreak.cycles = s.cycles := by simp [State.enterBreak]

@[simp] theorem State.enterBreak_a (s : State) : s.enterBreak.a = s.a := by simp [State.enterBreak]
@[simp] theorem State.enterBreak_x (s : State) : s.enterBreak.x = s.x := by simp [State.enterBreak]
@[simp] theorem State.enterBreak_y (s : State) : s.enterBreak.y = s.y := by simp [State.enterBreak]

@[simp] theorem State.enterBreak_flag (s : State) (f : Flag) :
    s.enterBreak.flag f = if f = .i then true else s.flag f := by
  simp [State.enterBreak]

@[simp] theorem State.enterBreak_read (s : State) (c : Addr) :
    s.enterBreak.read c =
      if c = stackAddr (s.sp - 1 - 1) then s.readP ||| 0x30
      else if c = stackAddr (s.sp - 1) then lowByte s.pc
      else if c = stackAddr s.sp then highByte s.pc else s.read c := by
  simp [State.enterBreak]

theorem State.enterBreak_wf (s : State) (h : s.mem.wf = true) : s.enterBreak.mem.wf = true :=
  Memory.wf_write _ _ _ (Memory.wf_write _ _ _ (Memory.wf_write _ _ _ h))

@[simp] theorem State.returnFromInterrupt_sp (s : State) : s.returnFromInterrupt.sp = s.sp + 1 + 1 + 1 := by
  simp [State.returnFromInterrupt]
@[simp] theorem State.returnFromInterrupt_pc (s : State) :
    s.returnFromInterrupt.pc = hiLo (s.read (stackAddr (s.sp + 1 + 1 + 1))) (s.read (stackAddr (s.sp + 1 + 1))) := by
  simp [State.returnFromInterrupt, State.pull16, State.pull]
@[simp] theorem State.returnFromInterrupt_flag (s : State) (f : Flag) :
    s.returnFromInterrupt.flag f = s.pullP.flag f := by
  simp only [State.returnFromInterrupt, State.setPc_flag, State.pulled_flag]
@[simp] theorem State.returnFromInterrupt_read (s : State) (c : Addr) : s.returnFromInterrupt.read c = s.read c := by
  simp [State.returnFromInterrupt]

@[simp] theorem State.returnFromInterrupt_a (s : State) : s.returnFromInterrupt.a = s.a := by
  simp [State.returnFromInterrupt]
@[simp] theorem State.returnFromInterrupt_x (s : State) : s.returnFromInterrupt.x = s.x := by
  simp [State.returnFromInterrupt]
@[simp] theorem State.returnFromInterrupt_y (s : State) : s.returnFromInterrupt.y = s.y := by
  simp [State.returnFromInterrupt]
@[simp] theorem State.returnFromInterrupt_cycles (s : State) : s.returnFromInterrupt.cycles = s.cycles := by
  simp [State.returnFromInterrupt]
@[simp] theorem State.returnFromInterrupt_halted (s : State) : s.returnFromInterrupt.halted = s.halted := by
  simp [State.returnFromInterrupt]
@[simp] theorem State.returnFromInterrupt_haltReason (s : State) : s.returnFromInterrupt.haltReason = s.haltReason := by
  simp [State.returnFromInterrupt]
@[simp] theorem State.returnFromInterrupt_mem (s : State) : s.returnFromInterrupt.mem = s.mem := by
  simp [State.returnFromInterrupt]
@[simp] theorem State.returnFromInterrupt_params (s : State) : s.returnFromInterrupt.params = s.params := by
  simp [State.returnFromInterrupt]

@[simp] theorem State.applyReset_read (s : State) (inp : ResetInput) (c : Addr) :
    (s.applyReset inp).read c = s.read c := rfl

/-- R45: the state after reset is the reset operation of R330 applied to a core with the launch memory and parameters. -/
theorem State.reset_eq_applyReset (s : State) (hm : s.mem = launchMemory) (hp : s.params = launchParams) :
    s.applyReset launchInput = State.reset := by
  simp [State.applyReset, State.reset, hm, hp]

/-! ## What an instruction of each shape answers -/

theorem implied_next (d : Descriptor) (f : State → State) (s t : State) :
    implied d f s = .next t ↔ t = (f s).account d false := by
  simp [implied, eq_comm]

theorem immediate_next (d : Descriptor) (n : Byte) (f : Byte → State → State) (s t : State) :
    immediate d n f s = .next t ↔ t = (f n s).account d false := by
  simp [immediate, eq_comm]

theorem reading_next (d : Descriptor) (r : Resolved) (f : Byte → State → State) (s t : State) :
    reading d r f s = .next t ↔ t = (f (s.read r.ea) s).account d r.crossed := by
  simp [reading, eq_comm]

theorem storing_next (d : Descriptor) (r : Resolved) (v : Byte) (s t : State) :
    storing d r v s = .next t ↔ t = (s.write r.ea v).account d r.crossed := by
  simp [storing, eq_comm]

theorem modifying_next (d : Descriptor) (r : Resolved) (f : Byte → State → Byte × State) (s t : State) :
    modifying d r f s = .next t ↔
      t = (((f (s.read r.ea) s).2.write r.ea (f (s.read r.ea) s).1).setZN (f (s.read r.ea) s).1).account d r.crossed := by
  simp [modifying, eq_comm]

theorem modifyingA_next (d : Descriptor) (f : Byte → State → Byte × State) (s t : State) :
    modifyingA d f s = .next t ↔ t = (((f s.a s).2.setA (f s.a s).1).setZN (f s.a s).1).account d false := by
  simp [modifyingA, eq_comm]

theorem branchOn_next (d : Descriptor) (f : Flag) (value : Bool) (r : Byte) (s t : State) :
    branchOn d f value r s = .next t ↔ t = (branchIf (s.flag f == value) r s).account d false := by
  simp [branchOn, eq_comm]

theorem jumping_next (d : Descriptor) (r : Resolved) (s t : State) :
    jumping d r s = .next t ↔ t = (s.setPc r.ea).account d r.crossed := by
  simp [jumping, eq_comm]

theorem calling_next (d : Descriptor) (w : Addr) (s t : State) :
    calling d w s = .next t ↔ t = (jumpToSubroutine w s).account d false := by
  simp [calling, eq_comm]

/-- R240: everything a branch can do. -/
theorem branchIf_cases (cond : Bool) (r : Byte) (s : State) :
    (cond = false ∧ branchIf cond r s = s) ∨
      (cond = true ∧ branchIf cond r s =
        (s.setPc (s.pc + sext16 r)).addCycles (1 + (pageCrossed s.pc (s.pc + sext16 r)).toNat)) := by
  cases cond
  · exact .inl ⟨rfl, rfl⟩
  · exact .inr ⟨rfl, rfl⟩

/-! ## The step -/

theorem step_halted (s : State) (h : s.halted = true) : step s = .next s := by
  simp [step, h]

/-- Everything a step of a running core can do (R140). -/
theorem step_running (s : State) (h : s.halted = false) :
    (∃ i, s.instrAt s.pc = .ok i ∧ step s = exec i (s.pastOperands i)) ∨
      (∃ why, s.instrAt s.pc = .error why ∧ step s = .next s.haltUnknown) := by
  unfold step
  cases hi : s.instrAt s.pc with
  | ok i => exact .inl ⟨i, rfl, by simp [h]⟩
  | error why => exact .inr ⟨why, rfl, by simp [h]⟩

end Sys2Proof.Machine
end

