-- ==== Sys2Proof/Laws/Operands.lean ====
section
/-! SUPPORT. The effective addresses of the resolver as arithmetic. -/

namespace Sys2Proof.Machine

@[simp] theorem zp_ea_toNat (n : Byte) : (zp n).ea.toNat = n.toNat := zext16_toNat n

@[simp] theorem zpx_ea_toNat (n : Byte) (s : State) : (zpx n s).ea.toNat = (n.toNat + s.x.toNat) % 256 := by
  simp [zpx]

@[simp] theorem zpy_ea_toNat (n : Byte) (s : State) : (zpy n s).ea.toNat = (n.toNat + s.y.toNat) % 256 := by
  simp [zpy]

@[simp] theorem indexed_ea_toNat (base : Addr) (index : Byte) :
    (indexed base index).ea.toNat = (base.toNat + index.toNat) % 65536 := by
  simp [indexed]

theorem indexed_crossed (base : Addr) (index : Byte) :
    (indexed base index).crossed = decide ((base.toNat + index.toNat) % 65536 / 256 ≠ base.toNat / 256) := by
  have h : ∀ u v : Byte, (u != v) = decide (u.toNat ≠ v.toNat) := fun u v => by
    rw [Bool.eq_iff_iff, bne_iff_ne, decide_eq_true_iff, ne_eq, ne_eq, BitVec.toNat_inj]
  simp only [indexed, pageCrossed, h, highByte_toNat, BitVec.toNat_add, zext16_toNat]

end Sys2Proof.Machine
end

