-- ==== Sys2Proof/Laws/Exec.lean ====
section
/-! SUPPORT. Every instruction is one of 56 effects, by its mnemonic, followed by the cycle accounting of its descriptor: a statement
about all instructions is proved by cases on the mnemonic. -/

namespace Sys2Proof.Machine

/-- A read-modify-write's effect on A or on the cell at `ea` (R220). -/
def modifyEffect (acc : Bool) (ea : Addr) (f : Byte → State → Byte × State) (s : State) : State :=
  if acc then ((f s.a s).2.setA (f s.a s).1).setZN (f s.a s).1
  else ((f (s.read ea) s).2.write ea (f (s.read ea) s).1).setZN (f (s.read ea) s).1

/-- The effect of a mnemonic, from the effective address and the operand value or offset of the form. -/
def effectOf (acc : Bool) (ea : Addr) (v : Byte) (s : State) : Mnemonic → State
  | .lda => loadA v s
  | .ldx => loadX v s
  | .ldy => loadY v s
  | .sta => s.write ea s.a
  | .stx => s.write ea s.x
  | .sty => s.write ea s.y
  | .tax => transferAX s
  | .tay => transferAY s
  | .txa => transferXA s
  | .tya => transferYA s
  | .tsx => transferSX s
  | .txs => transferXS s
  | .adc => addA v s
  | .sbc => subtractA v s
  | .and => andA v s
  | .ora => orA v s
  | .eor => xorA v s
  | .cmp => compareA v s
  | .cpx => compareX v s
  | .cpy => compareY v s
  | .bit => bitTest v s
  | .inc => modifyEffect acc ea incremented s
  | .dec => modifyEffect acc ea decremented s
  | .inx => incrementX s
  | .iny => incrementY s
  | .dex => decrementX s
  | .dey => decrementY s
  | .asl => modifyEffect acc ea shiftLeft s
  | .lsr => modifyEffect acc ea shiftRight s
  | .rol => modifyEffect acc ea rotateLeft s
  | .ror => modifyEffect acc ea rotateRight s
  | .bpl => branchIf (s.flag .n == false) v s
  | .bmi => branchIf (s.flag .n == true) v s
  | .bvc => branchIf (s.flag .v == false) v s
  | .bvs => branchIf (s.flag .v == true) v s
  | .bcc => branchIf (s.flag .c == false) v s
  | .bcs => branchIf (s.flag .c == true) v s
  | .bne => branchIf (s.flag .z == false) v s
  | .beq => branchIf (s.flag .z == true) v s
  | .jmp => s.setPc ea
  | .jsr => jumpToSubroutine ea s
  | .rts => returnFromSubroutine s
  | .pha => pushA s
  | .php => pushP s
  | .pla => pullA s
  | .plp => State.pullP s
  | .clc => State.setFlag .c false s
  | .sec => State.setFlag .c true s
  | .cli => State.setFlag .i false s
  | .sei => State.setFlag .i true s
  | .clv => State.setFlag .v false s
  | .cld => State.setFlag .d false s
  | .sed => State.setFlag .d true s
  | .nop => s
  | .brk => softwareBreak s
  | .rti => State.returnFromInterrupt s

/-- The address a form resolves to, with its crossing, and the operand value or offset. -/
def formOf (s : State) : Instr → Resolved × Byte
  | .ldaIzx n => ⟨izx n s, s.read (izx n s).ea⟩
  | .ldaZp n => ⟨zp n, s.read (zp n).ea⟩
  | .ldaImm n => ⟨⟨0, false⟩, n⟩
  | .ldaAbs w => ⟨abs16 w, s.read (abs16 w).ea⟩
  | .ldaIzy n => ⟨izy n s, s.read (izy n s).ea⟩
  | .ldaZpx n => ⟨zpx n s, s.read (zpx n s).ea⟩
  | .ldaAbsy w => ⟨absy w s, s.read (absy w s).ea⟩
  | .ldaAbsx w => ⟨absx w s, s.read (absx w s).ea⟩
  | .ldxImm n => ⟨⟨0, false⟩, n⟩
  | .ldxZp n => ⟨zp n, s.read (zp n).ea⟩
  | .ldxAbs w => ⟨abs16 w, s.read (abs16 w).ea⟩
  | .ldxZpy n => ⟨zpy n s, s.read (zpy n s).ea⟩
  | .ldxAbsy w => ⟨absy w s, s.read (absy w s).ea⟩
  | .ldyImm n => ⟨⟨0, false⟩, n⟩
  | .ldyZp n => ⟨zp n, s.read (zp n).ea⟩
  | .ldyAbs w => ⟨abs16 w, s.read (abs16 w).ea⟩
  | .ldyZpx n => ⟨zpx n s, s.read (zpx n s).ea⟩
  | .ldyAbsx w => ⟨absx w s, s.read (absx w s).ea⟩
  | .staIzx n => ⟨izx n s, s.read (izx n s).ea⟩
  | .staZp n => ⟨zp n, s.read (zp n).ea⟩
  | .staAbs w => ⟨abs16 w, s.read (abs16 w).ea⟩
  | .staIzy n => ⟨izy n s, s.read (izy n s).ea⟩
  | .staZpx n => ⟨zpx n s, s.read (zpx n s).ea⟩
  | .staAbsy w => ⟨absy w s, s.read (absy w s).ea⟩
  | .staAbsx w => ⟨absx w s, s.read (absx w s).ea⟩
  | .stxZp n => ⟨zp n, s.read (zp n).ea⟩
  | .stxAbs w => ⟨abs16 w, s.read (abs16 w).ea⟩
  | .stxZpy n => ⟨zpy n s, s.read (zpy n s).ea⟩
  | .styZp n => ⟨zp n, s.read (zp n).ea⟩
  | .styAbs w => ⟨abs16 w, s.read (abs16 w).ea⟩
  | .styZpx n => ⟨zpx n s, s.read (zpx n s).ea⟩
  | .tax => ⟨⟨0, false⟩, 0⟩
  | .tay => ⟨⟨0, false⟩, 0⟩
  | .txa => ⟨⟨0, false⟩, 0⟩
  | .tya => ⟨⟨0, false⟩, 0⟩
  | .tsx => ⟨⟨0, false⟩, 0⟩
  | .txs => ⟨⟨0, false⟩, 0⟩
  | .adcIzx n => ⟨izx n s, s.read (izx n s).ea⟩
  | .adcZp n => ⟨zp n, s.read (zp n).ea⟩
  | .adcImm n => ⟨⟨0, false⟩, n⟩
  | .adcAbs w => ⟨abs16 w, s.read (abs16 w).ea⟩
  | .adcIzy n => ⟨izy n s, s.read (izy n s).ea⟩
  | .adcZpx n => ⟨zpx n s, s.read (zpx n s).ea⟩
  | .adcAbsy w => ⟨absy w s, s.read (absy w s).ea⟩
  | .adcAbsx w => ⟨absx w s, s.read (absx w s).ea⟩
  | .sbcIzx n => ⟨izx n s, s.read (izx n s).ea⟩
  | .sbcZp n => ⟨zp n, s.read (zp n).ea⟩
  | .sbcImm n => ⟨⟨0, false⟩, n⟩
  | .sbcAbs w => ⟨abs16 w, s.read (abs16 w).ea⟩
  | .sbcIzy n => ⟨izy n s, s.read (izy n s).ea⟩
  | .sbcZpx n => ⟨zpx n s, s.read (zpx n s).ea⟩
  | .sbcAbsy w => ⟨absy w s, s.read (absy w s).ea⟩
  | .sbcAbsx w => ⟨absx w s, s.read (absx w s).ea⟩
  | .andIzx n => ⟨izx n s, s.read (izx n s).ea⟩
  | .andZp n => ⟨zp n, s.read (zp n).ea⟩
  | .andImm n => ⟨⟨0, false⟩, n⟩
  | .andAbs w => ⟨abs16 w, s.read (abs16 w).ea⟩
  | .andIzy n => ⟨izy n s, s.read (izy n s).ea⟩
  | .andZpx n => ⟨zpx n s, s.read (zpx n s).ea⟩
  | .andAbsy w => ⟨absy w s, s.read (absy w s).ea⟩
  | .andAbsx w => ⟨absx w s, s.read (absx w s).ea⟩
  | .oraIzx n => ⟨izx n s, s.read (izx n s).ea⟩
  | .oraZp n => ⟨zp n, s.read (zp n).ea⟩
  | .oraImm n => ⟨⟨0, false⟩, n⟩
  | .oraAbs w => ⟨abs16 w, s.read (abs16 w).ea⟩
  | .oraIzy n => ⟨izy n s, s.read (izy n s).ea⟩
  | .oraZpx n => ⟨zpx n s, s.read (zpx n s).ea⟩
  | .oraAbsy w => ⟨absy w s, s.read (absy w s).ea⟩
  | .oraAbsx w => ⟨absx w s, s.read (absx w s).ea⟩
  | .eorIzx n => ⟨izx n s, s.read (izx n s).ea⟩
  | .eorZp n => ⟨zp n, s.read (zp n).ea⟩
  | .eorImm n => ⟨⟨0, false⟩, n⟩
  | .eorAbs w => ⟨abs16 w, s.read (abs16 w).ea⟩
  | .eorIzy n => ⟨izy n s, s.read (izy n s).ea⟩
  | .eorZpx n => ⟨zpx n s, s.read (zpx n s).ea⟩
  | .eorAbsy w => ⟨absy w s, s.read (absy w s).ea⟩
  | .eorAbsx w => ⟨absx w s, s.read (absx w s).ea⟩
  | .cmpIzx n => ⟨izx n s, s.read (izx n s).ea⟩
  | .cmpZp n => ⟨zp n, s.read (zp n).ea⟩
  | .cmpImm n => ⟨⟨0, false⟩, n⟩
  | .cmpAbs w => ⟨abs16 w, s.read (abs16 w).ea⟩
  | .cmpIzy n => ⟨izy n s, s.read (izy n s).ea⟩
  | .cmpZpx n => ⟨zpx n s, s.read (zpx n s).ea⟩
  | .cmpAbsy w => ⟨absy w s, s.read (absy w s).ea⟩
  | .cmpAbsx w => ⟨absx w s, s.read (absx w s).ea⟩
  | .cpxImm n => ⟨⟨0, false⟩, n⟩
  | .cpxZp n => ⟨zp n, s.read (zp n).ea⟩
  | .cpxAbs w => ⟨abs16 w, s.read (abs16 w).ea⟩
  | .cpyImm n => ⟨⟨0, false⟩, n⟩
  | .cpyZp n => ⟨zp n, s.read (zp n).ea⟩
  | .cpyAbs w => ⟨abs16 w, s.read (abs16 w).ea⟩
  | .bitZp n => ⟨zp n, s.read (zp n).ea⟩
  | .bitAbs w => ⟨abs16 w, s.read (abs16 w).ea⟩
  | .incZp n => ⟨zp n, s.read (zp n).ea⟩
  | .incAbs w => ⟨abs16 w, s.read (abs16 w).ea⟩
  | .incZpx n => ⟨zpx n s, s.read (zpx n s).ea⟩
  | .incAbsx w => ⟨absx w s, s.read (absx w s).ea⟩
  | .decZp n => ⟨zp n, s.read (zp n).ea⟩
  | .decAbs w => ⟨abs16 w, s.read (abs16 w).ea⟩
  | .decZpx n => ⟨zpx n s, s.read (zpx n s).ea⟩
  | .decAbsx w => ⟨absx w s, s.read (absx w s).ea⟩
  | .inx => ⟨⟨0, false⟩, 0⟩
  | .iny => ⟨⟨0, false⟩, 0⟩
  | .dex => ⟨⟨0, false⟩, 0⟩
  | .dey => ⟨⟨0, false⟩, 0⟩
  | .aslZp n => ⟨zp n, s.read (zp n).ea⟩
  | .aslAcc => ⟨⟨0, false⟩, 0⟩
  | .aslAbs w => ⟨abs16 w, s.read (abs16 w).ea⟩
  | .aslZpx n => ⟨zpx n s, s.read (zpx n s).ea⟩
  | .aslAbsx w => ⟨absx w s, s.read (absx w s).ea⟩
  | .lsrZp n => ⟨zp n, s.read (zp n).ea⟩
  | .lsrAcc => ⟨⟨0, false⟩, 0⟩
  | .lsrAbs w => ⟨abs16 w, s.read (abs16 w).ea⟩
  | .lsrZpx n => ⟨zpx n s, s.read (zpx n s).ea⟩
  | .lsrAbsx w => ⟨absx w s, s.read (absx w s).ea⟩
  | .rolZp n => ⟨zp n, s.read (zp n).ea⟩
  | .rolAcc => ⟨⟨0, false⟩, 0⟩
  | .rolAbs w => ⟨abs16 w, s.read (abs16 w).ea⟩
  | .rolZpx n => ⟨zpx n s, s.read (zpx n s).ea⟩
  | .rolAbsx w => ⟨absx w s, s.read (absx w s).ea⟩
  | .rorZp n => ⟨zp n, s.read (zp n).ea⟩
  | .rorAcc => ⟨⟨0, false⟩, 0⟩
  | .rorAbs w => ⟨abs16 w, s.read (abs16 w).ea⟩
  | .rorZpx n => ⟨zpx n s, s.read (zpx n s).ea⟩
  | .rorAbsx w => ⟨absx w s, s.read (absx w s).ea⟩
  | .bpl r => ⟨⟨0, false⟩, r⟩
  | .bmi r => ⟨⟨0, false⟩, r⟩
  | .bvc r => ⟨⟨0, false⟩, r⟩
  | .bvs r => ⟨⟨0, false⟩, r⟩
  | .bcc r => ⟨⟨0, false⟩, r⟩
  | .bcs r => ⟨⟨0, false⟩, r⟩
  | .bne r => ⟨⟨0, false⟩, r⟩
  | .beq r => ⟨⟨0, false⟩, r⟩
  | .jmpAbs w => ⟨abs16 w, s.read (abs16 w).ea⟩
  | .jmpInd w => ⟨ind w s, s.read (ind w s).ea⟩
  | .jsr w => ⟨abs16 w, 0⟩
  | .rts => ⟨⟨0, false⟩, 0⟩
  | .pha => ⟨⟨0, false⟩, 0⟩
  | .php => ⟨⟨0, false⟩, 0⟩
  | .pla => ⟨⟨0, false⟩, 0⟩
  | .plp => ⟨⟨0, false⟩, 0⟩
  | .clc => ⟨⟨0, false⟩, 0⟩
  | .sec => ⟨⟨0, false⟩, 0⟩
  | .cli => ⟨⟨0, false⟩, 0⟩
  | .sei => ⟨⟨0, false⟩, 0⟩
  | .clv => ⟨⟨0, false⟩, 0⟩
  | .cld => ⟨⟨0, false⟩, 0⟩
  | .sed => ⟨⟨0, false⟩, 0⟩
  | .nop => ⟨⟨0, false⟩, 0⟩
  | .nopZp04 n => ⟨zp n, s.read (zp n).ea⟩
  | .nopAbs0C w => ⟨abs16 w, s.read (abs16 w).ea⟩
  | .nopZpx14 n => ⟨zpx n s, s.read (zpx n s).ea⟩
  | .nopImp1A => ⟨⟨0, false⟩, 0⟩
  | .nopAbsx1C w => ⟨absx w s, s.read (absx w s).ea⟩
  | .nopZpx34 n => ⟨zpx n s, s.read (zpx n s).ea⟩
  | .nopImp3A => ⟨⟨0, false⟩, 0⟩
  | .nopAbsx3C w => ⟨absx w s, s.read (absx w s).ea⟩
  | .nopZp44 n => ⟨zp n, s.read (zp n).ea⟩
  | .nopZpx54 n => ⟨zpx n s, s.read (zpx n s).ea⟩
  | .nopImp5A => ⟨⟨0, false⟩, 0⟩
  | .nopAbsx5C w => ⟨absx w s, s.read (absx w s).ea⟩
  | .nopZp64 n => ⟨zp n, s.read (zp n).ea⟩
  | .nopZpx74 n => ⟨zpx n s, s.read (zpx n s).ea⟩
  | .nopImp7A => ⟨⟨0, false⟩, 0⟩
  | .nopAbsx7C w => ⟨absx w s, s.read (absx w s).ea⟩
  | .nopImm80 n => ⟨⟨0, false⟩, n⟩
  | .nopImm82 n => ⟨⟨0, false⟩, n⟩
  | .nopImm89 n => ⟨⟨0, false⟩, n⟩
  | .nopImmC2 n => ⟨⟨0, false⟩, n⟩
  | .nopZpxD4 n => ⟨zpx n s, s.read (zpx n s).ea⟩
  | .nopImpDA => ⟨⟨0, false⟩, 0⟩
  | .nopAbsxDC w => ⟨absx w s, s.read (absx w s).ea⟩
  | .nopImmE2 n => ⟨⟨0, false⟩, n⟩
  | .nopZpxF4 n => ⟨zpx n s, s.read (zpx n s).ea⟩
  | .nopImpFA => ⟨⟨0, false⟩, 0⟩
  | .nopAbsxFC w => ⟨absx w s, s.read (absx w s).ea⟩
  | .brk => ⟨⟨0, false⟩, 0⟩
  | .rti => ⟨⟨0, false⟩, 0⟩

/-- What an instruction answers, by its mnemonic: the effect at the address it resolves to with its operand value, then the
accounting of R145 and R146. -/
theorem exec_effect (i : Instr) (s : State) :
    exec i s = .next ((effectOf (decide ((descriptorOf i).mode = .acc)) (formOf s i).1.ea (formOf s i).2 s
      (descriptorOf i).mnemonic).account (descriptorOf i) (formOf s i).1.crossed) := by
  cases i <;> rfl

/-- An address and an operand depend on X, Y and the memory alone. -/
theorem formOf_congr (i : Instr) (s t : State) (hx : t.x = s.x) (hy : t.y = s.y) (hm : t.mem = s.mem) :
    formOf t i = formOf s i := by
  have hr : t.read = s.read := funext fun a => congrArg (Memory.read · a) hm
  cases i <;>
    simp only [formOf, zpx, zpy, absx, absy, izx, izy, ind, State.read16Zp, State.read16Bug, hx, hy, hr]

/-- Every meaning answers a next state: no path of any instruction is a fault or a refusal. -/
theorem exec_next (i : Instr) (s : State) : ∃ t, exec i s = .next t :=
  ⟨_, exec_effect i s⟩

end Sys2Proof.Machine
end

