-- ==== Sys2Proof/Laws/Fetch.lean ====
section
/-! SUPPORT. What the table lookup, the fetch, one step and a run come to, each in one lemma. -/

namespace Sys2Proof.Machine

/-- A documented opcode's slot does not depend on UNOFFICIAL_NOPS. -/
theorem tableSlot_documented (nops : List Byte) (op : Byte) (h : nopCandidates.contains op = false) :
    tableSlot nops op = (opcodeMap[op.toNat]?).join := by
  rw [tableSlot, h]
  rfl

/-- An opcode in UNOFFICIAL_NOPS has the slot of the map. -/
theorem tableSlot_listed (nops : List Byte) (op : Byte) (h : nops.contains op = true) :
    tableSlot nops op = (opcodeMap[op.toNat]?).join := by
  rw [tableSlot, h, Bool.not_true, Bool.and_false]
  rfl

/-- Every address is a pair of bytes. -/
theorem exists_hiLo (w : Addr) : ∃ hi lo, w = hiLo hi lo := ⟨highByte w, lowByte w, (hiLo_bytes w).symm⟩

theorem State.instrAt_ok (s : State) (a : Addr) (i : Instr) :
    s.instrAt a = .ok i ↔
      ∃ rest, decode s.params.unofficialNops [s.read a, s.read (a + 1), s.read (a + 2)] = .ok (i, rest) := by
  unfold State.instrAt State.bytesAt
  cases decode s.params.unofficialNops [s.read a, s.read (a + 1), s.read (a + 2)] with
  | error e => simp
  | ok p => simp [Prod.ext_iff, eq_comm]

theorem State.instrAt_error (s : State) (a : Addr) (why : Reject) :
    s.instrAt a = .error why ↔
      decode s.params.unofficialNops [s.read a, s.read (a + 1), s.read (a + 2)] = .error why := by
  unfold State.instrAt State.bytesAt
  cases decode s.params.unofficialNops [s.read a, s.read (a + 1), s.read (a + 2)] with
  | error e => simp
  | ok p => simp

/-- The encoding has as many bytes as the fetch consumes. -/
theorem encode_length (i : Instr) : (encode i).length = fetchedBytes i := by
  cases i <;> rfl

theorem step_ok (s : State) (i : Instr) (hs : s.halted = false) (h : s.instrAt s.pc = .ok i) :
    step s = exec i (s.pastOperands i) := by
  simp [step, hs, h]

theorem step_error (s : State) (why : Reject) (hs : s.halted = false) (h : s.instrAt s.pc = .error why) :
    step s = .next s.haltUnknown := by
  simp [step, hs, h, State.rejected]

/-- A run's first step. -/
theorem run_succ_of_next (M : Host.Core) (s t : M.State) (k : Nat) (h : M.step s = .next t) :
    M.run (k + 1) s = M.run k t := by
  rw [Host.Core.run, h]

end Sys2Proof.Machine
end

