-- ==== Sys2Proof/Laws/PerInstr.lean ====
section
/-! SUPPORT. Statements made per instruction, as syntax. `OperandBytes`: the encoder's operand bytes are as many as the mode's
resolver consumes, and the descriptor's length is one more (R91, R96; for BRK the length is 1, R95). -/

namespace Sys2Proof.Laws.OperandBytes

def Statement (i : Instr) : Prop :=
  (operandBytesOf i).length = modeOperandBytes (descriptorOf i).mode ∧
    (descriptorOf i).length = 1 + modeOperandBytes (descriptorOf i).mode

theorem ldaIzx (n : Byte) : Statement (.ldaIzx n) := ⟨rfl, rfl⟩
theorem ldaZp (n : Byte) : Statement (.ldaZp n) := ⟨rfl, rfl⟩
theorem ldaImm (n : Byte) : Statement (.ldaImm n) := ⟨rfl, rfl⟩
theorem ldaAbs (w : Addr) : Statement (.ldaAbs w) := ⟨rfl, rfl⟩
theorem ldaIzy (n : Byte) : Statement (.ldaIzy n) := ⟨rfl, rfl⟩
theorem ldaZpx (n : Byte) : Statement (.ldaZpx n) := ⟨rfl, rfl⟩
theorem ldaAbsy (w : Addr) : Statement (.ldaAbsy w) := ⟨rfl, rfl⟩
theorem ldaAbsx (w : Addr) : Statement (.ldaAbsx w) := ⟨rfl, rfl⟩
theorem ldxImm (n : Byte) : Statement (.ldxImm n) := ⟨rfl, rfl⟩
theorem ldxZp (n : Byte) : Statement (.ldxZp n) := ⟨rfl, rfl⟩
theorem ldxAbs (w : Addr) : Statement (.ldxAbs w) := ⟨rfl, rfl⟩
theorem ldxZpy (n : Byte) : Statement (.ldxZpy n) := ⟨rfl, rfl⟩
theorem ldxAbsy (w : Addr) : Statement (.ldxAbsy w) := ⟨rfl, rfl⟩
theorem ldyImm (n : Byte) : Statement (.ldyImm n) := ⟨rfl, rfl⟩
theorem ldyZp (n : Byte) : Statement (.ldyZp n) := ⟨rfl, rfl⟩
theorem ldyAbs (w : Addr) : Statement (.ldyAbs w) := ⟨rfl, rfl⟩
theorem ldyZpx (n : Byte) : Statement (.ldyZpx n) := ⟨rfl, rfl⟩
theorem ldyAbsx (w : Addr) : Statement (.ldyAbsx w) := ⟨rfl, rfl⟩
theorem staIzx (n : Byte) : Statement (.staIzx n) := ⟨rfl, rfl⟩
theorem staZp (n : Byte) : Statement (.staZp n) := ⟨rfl, rfl⟩
theorem staAbs (w : Addr) : Statement (.staAbs w) := ⟨rfl, rfl⟩
theorem staIzy (n : Byte) : Statement (.staIzy n) := ⟨rfl, rfl⟩
theorem staZpx (n : Byte) : Statement (.staZpx n) := ⟨rfl, rfl⟩
theorem staAbsy (w : Addr) : Statement (.staAbsy w) := ⟨rfl, rfl⟩
theorem staAbsx (w : Addr) : Statement (.staAbsx w) := ⟨rfl, rfl⟩
theorem stxZp (n : Byte) : Statement (.stxZp n) := ⟨rfl, rfl⟩
theorem stxAbs (w : Addr) : Statement (.stxAbs w) := ⟨rfl, rfl⟩
theorem stxZpy (n : Byte) : Statement (.stxZpy n) := ⟨rfl, rfl⟩
theorem styZp (n : Byte) : Statement (.styZp n) := ⟨rfl, rfl⟩
theorem styAbs (w : Addr) : Statement (.styAbs w) := ⟨rfl, rfl⟩
theorem styZpx (n : Byte) : Statement (.styZpx n) := ⟨rfl, rfl⟩
theorem tax : Statement .tax := ⟨rfl, rfl⟩
theorem tay : Statement .tay := ⟨rfl, rfl⟩
theorem txa : Statement .txa := ⟨rfl, rfl⟩
theorem tya : Statement .tya := ⟨rfl, rfl⟩
theorem tsx : Statement .tsx := ⟨rfl, rfl⟩
theorem txs : Statement .txs := ⟨rfl, rfl⟩
theorem adcIzx (n : Byte) : Statement (.adcIzx n) := ⟨rfl, rfl⟩
theorem adcZp (n : Byte) : Statement (.adcZp n) := ⟨rfl, rfl⟩
theorem adcImm (n : Byte) : Statement (.adcImm n) := ⟨rfl, rfl⟩
theorem adcAbs (w : Addr) : Statement (.adcAbs w) := ⟨rfl, rfl⟩
theorem adcIzy (n : Byte) : Statement (.adcIzy n) := ⟨rfl, rfl⟩
theorem adcZpx (n : Byte) : Statement (.adcZpx n) := ⟨rfl, rfl⟩
theorem adcAbsy (w : Addr) : Statement (.adcAbsy w) := ⟨rfl, rfl⟩
theorem adcAbsx (w : Addr) : Statement (.adcAbsx w) := ⟨rfl, rfl⟩
theorem sbcIzx (n : Byte) : Statement (.sbcIzx n) := ⟨rfl, rfl⟩
theorem sbcZp (n : Byte) : Statement (.sbcZp n) := ⟨rfl, rfl⟩
theorem sbcImm (n : Byte) : Statement (.sbcImm n) := ⟨rfl, rfl⟩
theorem sbcAbs (w : Addr) : Statement (.sbcAbs w) := ⟨rfl, rfl⟩
theorem sbcIzy (n : Byte) : Statement (.sbcIzy n) := ⟨rfl, rfl⟩
theorem sbcZpx (n : Byte) : Statement (.sbcZpx n) := ⟨rfl, rfl⟩
theorem sbcAbsy (w : Addr) : Statement (.sbcAbsy w) := ⟨rfl, rfl⟩
theorem sbcAbsx (w : Addr) : Statement (.sbcAbsx w) := ⟨rfl, rfl⟩
theorem andIzx (n : Byte) : Statement (.andIzx n) := ⟨rfl, rfl⟩
theorem andZp (n : Byte) : Statement (.andZp n) := ⟨rfl, rfl⟩
theorem andImm (n : Byte) : Statement (.andImm n) := ⟨rfl, rfl⟩
theorem andAbs (w : Addr) : Statement (.andAbs w) := ⟨rfl, rfl⟩
theorem andIzy (n : Byte) : Statement (.andIzy n) := ⟨rfl, rfl⟩
theorem andZpx (n : Byte) : Statement (.andZpx n) := ⟨rfl, rfl⟩
theorem andAbsy (w : Addr) : Statement (.andAbsy w) := ⟨rfl, rfl⟩
theorem andAbsx (w : Addr) : Statement (.andAbsx w) := ⟨rfl, rfl⟩
theorem oraIzx (n : Byte) : Statement (.oraIzx n) := ⟨rfl, rfl⟩
theorem oraZp (n : Byte) : Statement (.oraZp n) := ⟨rfl, rfl⟩
theorem oraImm (n : Byte) : Statement (.oraImm n) := ⟨rfl, rfl⟩
theorem oraAbs (w : Addr) : Statement (.oraAbs w) := ⟨rfl, rfl⟩
theorem oraIzy (n : Byte) : Statement (.oraIzy n) := ⟨rfl, rfl⟩
theorem oraZpx (n : Byte) : Statement (.oraZpx n) := ⟨rfl, rfl⟩
theorem oraAbsy (w : Addr) : Statement (.oraAbsy w) := ⟨rfl, rfl⟩
theorem oraAbsx (w : Addr) : Statement (.oraAbsx w) := ⟨rfl, rfl⟩
theorem eorIzx (n : Byte) : Statement (.eorIzx n) := ⟨rfl, rfl⟩
theorem eorZp (n : Byte) : Statement (.eorZp n) := ⟨rfl, rfl⟩
theorem eorImm (n : Byte) : Statement (.eorImm n) := ⟨rfl, rfl⟩
theorem eorAbs (w : Addr) : Statement (.eorAbs w) := ⟨rfl, rfl⟩
theorem eorIzy (n : Byte) : Statement (.eorIzy n) := ⟨rfl, rfl⟩
theorem eorZpx (n : Byte) : Statement (.eorZpx n) := ⟨rfl, rfl⟩
theorem eorAbsy (w : Addr) : Statement (.eorAbsy w) := ⟨rfl, rfl⟩
theorem eorAbsx (w : Addr) : Statement (.eorAbsx w) := ⟨rfl, rfl⟩
theorem cmpIzx (n : Byte) : Statement (.cmpIzx n) := ⟨rfl, rfl⟩
theorem cmpZp (n : Byte) : Statement (.cmpZp n) := ⟨rfl, rfl⟩
theorem cmpImm (n : Byte) : Statement (.cmpImm n) := ⟨rfl, rfl⟩
theorem cmpAbs (w : Addr) : Statement (.cmpAbs w) := ⟨rfl, rfl⟩
theorem cmpIzy (n : Byte) : Statement (.cmpIzy n) := ⟨rfl, rfl⟩
theorem cmpZpx (n : Byte) : Statement (.cmpZpx n) := ⟨rfl, rfl⟩
theorem cmpAbsy (w : Addr) : Statement (.cmpAbsy w) := ⟨rfl, rfl⟩
theorem cmpAbsx (w : Addr) : Statement (.cmpAbsx w) := ⟨rfl, rfl⟩
theorem cpxImm (n : Byte) : Statement (.cpxImm n) := ⟨rfl, rfl⟩
theorem cpxZp (n : Byte) : Statement (.cpxZp n) := ⟨rfl, rfl⟩
theorem cpxAbs (w : Addr) : Statement (.cpxAbs w) := ⟨rfl, rfl⟩
theorem cpyImm (n : Byte) : Statement (.cpyImm n) := ⟨rfl, rfl⟩
theorem cpyZp (n : Byte) : Statement (.cpyZp n) := ⟨rfl, rfl⟩
theorem cpyAbs (w : Addr) : Statement (.cpyAbs w) := ⟨rfl, rfl⟩
theorem bitZp (n : Byte) : Statement (.bitZp n) := ⟨rfl, rfl⟩
theorem bitAbs (w : Addr) : Statement (.bitAbs w) := ⟨rfl, rfl⟩
theorem incZp (n : Byte) : Statement (.incZp n) := ⟨rfl, rfl⟩
theorem incAbs (w : Addr) : Statement (.incAbs w) := ⟨rfl, rfl⟩
theorem incZpx (n : Byte) : Statement (.incZpx n) := ⟨rfl, rfl⟩
theorem incAbsx (w : Addr) : Statement (.incAbsx w) := ⟨rfl, rfl⟩
theorem decZp (n : Byte) : Statement (.decZp n) := ⟨rfl, rfl⟩
theorem decAbs (w : Addr) : Statement (.decAbs w) := ⟨rfl, rfl⟩
theorem decZpx (n : Byte) : Statement (.decZpx n) := ⟨rfl, rfl⟩
theorem decAbsx (w : Addr) : Statement (.decAbsx w) := ⟨rfl, rfl⟩
theorem inx : Statement .inx := ⟨rfl, rfl⟩
theorem iny : Statement .iny := ⟨rfl, rfl⟩
theorem dex : Statement .dex := ⟨rfl, rfl⟩
theorem dey : Statement .dey := ⟨rfl, rfl⟩
theorem aslZp (n : Byte) : Statement (.aslZp n) := ⟨rfl, rfl⟩
theorem aslAcc : Statement .aslAcc := ⟨rfl, rfl⟩
theorem aslAbs (w : Addr) : Statement (.aslAbs w) := ⟨rfl, rfl⟩
theorem aslZpx (n : Byte) : Statement (.aslZpx n) := ⟨rfl, rfl⟩
theorem aslAbsx (w : Addr) : Statement (.aslAbsx w) := ⟨rfl, rfl⟩
theorem lsrZp (n : Byte) : Statement (.lsrZp n) := ⟨rfl, rfl⟩
theorem lsrAcc : Statement .lsrAcc := ⟨rfl, rfl⟩
theorem lsrAbs (w : Addr) : Statement (.lsrAbs w) := ⟨rfl, rfl⟩
theorem lsrZpx (n : Byte) : Statement (.lsrZpx n) := ⟨rfl, rfl⟩
theorem lsrAbsx (w : Addr) : Statement (.lsrAbsx w) := ⟨rfl, rfl⟩
theorem rolZp (n : Byte) : Statement (.rolZp n) := ⟨rfl, rfl⟩
theorem rolAcc : Statement .rolAcc := ⟨rfl, rfl⟩
theorem rolAbs (w : Addr) : Statement (.rolAbs w) := ⟨rfl, rfl⟩
theorem rolZpx (n : Byte) : Statement (.rolZpx n) := ⟨rfl, rfl⟩
theorem rolAbsx (w : Addr) : Statement (.rolAbsx w) := ⟨rfl, rfl⟩
theorem rorZp (n : Byte) : Statement (.rorZp n) := ⟨rfl, rfl⟩
theorem rorAcc : Statement .rorAcc := ⟨rfl, rfl⟩
theorem rorAbs (w : Addr) : Statement (.rorAbs w) := ⟨rfl, rfl⟩
theorem rorZpx (n : Byte) : Statement (.rorZpx n) := ⟨rfl, rfl⟩
theorem rorAbsx (w : Addr) : Statement (.rorAbsx w) := ⟨rfl, rfl⟩
theorem bpl (r : Byte) : Statement (.bpl r) := ⟨rfl, rfl⟩
theorem bmi (r : Byte) : Statement (.bmi r) := ⟨rfl, rfl⟩
theorem bvc (r : Byte) : Statement (.bvc r) := ⟨rfl, rfl⟩
theorem bvs (r : Byte) : Statement (.bvs r) := ⟨rfl, rfl⟩
theorem bcc (r : Byte) : Statement (.bcc r) := ⟨rfl, rfl⟩
theorem bcs (r : Byte) : Statement (.bcs r) := ⟨rfl, rfl⟩
theorem bne (r : Byte) : Statement (.bne r) := ⟨rfl, rfl⟩
theorem beq (r : Byte) : Statement (.beq r) := ⟨rfl, rfl⟩
theorem jmpAbs (w : Addr) : Statement (.jmpAbs w) := ⟨rfl, rfl⟩
theorem jmpInd (w : Addr) : Statement (.jmpInd w) := ⟨rfl, rfl⟩
theorem jsr (w : Addr) : Statement (.jsr w) := ⟨rfl, rfl⟩
theorem rts : Statement .rts := ⟨rfl, rfl⟩
theorem pha : Statement .pha := ⟨rfl, rfl⟩
theorem php : Statement .php := ⟨rfl, rfl⟩
theorem pla : Statement .pla := ⟨rfl, rfl⟩
theorem plp : Statement .plp := ⟨rfl, rfl⟩
theorem clc : Statement .clc := ⟨rfl, rfl⟩
theorem sec : Statement .sec := ⟨rfl, rfl⟩
theorem cli : Statement .cli := ⟨rfl, rfl⟩
theorem sei : Statement .sei := ⟨rfl, rfl⟩
theorem clv : Statement .clv := ⟨rfl, rfl⟩
theorem cld : Statement .cld := ⟨rfl, rfl⟩
theorem sed : Statement .sed := ⟨rfl, rfl⟩
theorem nop : Statement .nop := ⟨rfl, rfl⟩
theorem nopZp04 (n : Byte) : Statement (.nopZp04 n) := ⟨rfl, rfl⟩
theorem nopAbs0C (w : Addr) : Statement (.nopAbs0C w) := ⟨rfl, rfl⟩
theorem nopZpx14 (n : Byte) : Statement (.nopZpx14 n) := ⟨rfl, rfl⟩
theorem nopImp1A : Statement .nopImp1A := ⟨rfl, rfl⟩
theorem nopAbsx1C (w : Addr) : Statement (.nopAbsx1C w) := ⟨rfl, rfl⟩
theorem nopZpx34 (n : Byte) : Statement (.nopZpx34 n) := ⟨rfl, rfl⟩
theorem nopImp3A : Statement .nopImp3A := ⟨rfl, rfl⟩
theorem nopAbsx3C (w : Addr) : Statement (.nopAbsx3C w) := ⟨rfl, rfl⟩
theorem nopZp44 (n : Byte) : Statement (.nopZp44 n) := ⟨rfl, rfl⟩
theorem nopZpx54 (n : Byte) : Statement (.nopZpx54 n) := ⟨rfl, rfl⟩
theorem nopImp5A : Statement .nopImp5A := ⟨rfl, rfl⟩
theorem nopAbsx5C (w : Addr) : Statement (.nopAbsx5C w) := ⟨rfl, rfl⟩
theorem nopZp64 (n : Byte) : Statement (.nopZp64 n) := ⟨rfl, rfl⟩
theorem nopZpx74 (n : Byte) : Statement (.nopZpx74 n) := ⟨rfl, rfl⟩
theorem nopImp7A : Statement .nopImp7A := ⟨rfl, rfl⟩
theorem nopAbsx7C (w : Addr) : Statement (.nopAbsx7C w) := ⟨rfl, rfl⟩
theorem nopImm80 (n : Byte) : Statement (.nopImm80 n) := ⟨rfl, rfl⟩
theorem nopImm82 (n : Byte) : Statement (.nopImm82 n) := ⟨rfl, rfl⟩
theorem nopImm89 (n : Byte) : Statement (.nopImm89 n) := ⟨rfl, rfl⟩
theorem nopImmC2 (n : Byte) : Statement (.nopImmC2 n) := ⟨rfl, rfl⟩
theorem nopZpxD4 (n : Byte) : Statement (.nopZpxD4 n) := ⟨rfl, rfl⟩
theorem nopImpDA : Statement .nopImpDA := ⟨rfl, rfl⟩
theorem nopAbsxDC (w : Addr) : Statement (.nopAbsxDC w) := ⟨rfl, rfl⟩
theorem nopImmE2 (n : Byte) : Statement (.nopImmE2 n) := ⟨rfl, rfl⟩
theorem nopZpxF4 (n : Byte) : Statement (.nopZpxF4 n) := ⟨rfl, rfl⟩
theorem nopImpFA : Statement .nopImpFA := ⟨rfl, rfl⟩
theorem nopAbsxFC (w : Addr) : Statement (.nopAbsxFC w) := ⟨rfl, rfl⟩
theorem brk : Statement .brk := ⟨rfl, rfl⟩
theorem rti : Statement .rti := ⟨rfl, rfl⟩

end Sys2Proof.Laws.OperandBytes
end

