-- ==== Sys2Proof/Tests/Slice0.lean ====
section
/-! SUPPORT. The model's own tests. Expected values are those of the spec's vectors (95_test_vectors.md, named in each test), its
opcode table and encodings (30_encoding.md), or hand calculation from the rule named. -/

namespace Sys2Proof.Tests

open Sys2Proof.Machine Sys2Proof.Claims

/-! ## Well-formedness: an ill-formed term for each check, which the check refuses -/

/-- R104: a candidate NOP has no descriptor in a build whose UNOFFICIAL_NOPS is empty, and one where its opcode is listed. -/
theorem test_wf_candidate : Instr.nopImp1A.wf [] = false ∧ Instr.nopImp1A.wf [0x3A] = false ∧
    Instr.nopImp1A.wf [0x1A] = true ∧ Instr.nop.wf [] = true := by decide

/-- R8: UNOFFICIAL_NOPS holds candidates only, each once, in one order. -/
theorem test_wf_params : paramsWf ⟨[0xFF], .keep⟩ = false ∧ paramsWf ⟨[0xEA], .clear⟩ = false ∧
    paramsWf ⟨[0x3A, 0x1A], .keep⟩ = false ∧ paramsWf ⟨[0x1A, 0x1A], .keep⟩ = false ∧
    paramsWf ⟨[0x1A, 0x3A], .clear⟩ = true ∧ paramsWf ⟨nopCandidates, .keep⟩ = true := by decide

/-- The canonical form of memory: order, range, no entry equal to the unlisted byte. -/
theorem test_wf_memory : Memory.wf [(2, 1), (1, 1)] = false ∧ Memory.wf [(65536, 1)] = false ∧
    Memory.wf [(1, 0)] = false ∧ Memory.wf [(1, 1), (1, 2)] = false ∧ Memory.wf [(0, 1), (65535, 1)] = true := by decide

/-! ## Decoding: words written out bit by bit from the encodings of R90, R91 and R100 -/


/-- The word decodes to the instruction, whole, and is its encoding. -/
def stands (word : List Byte) (i : Instr) : Bool :=
  (match decode nopCandidates word with
  | .ok (j, rest) => decide (j = i) && rest.isEmpty
  | .error _ => false) && decide (encode i = word)

/-! Every row of R100 and R104, by family: the opcode of the table in binary, then the operand bytes `low, high`. -/

theorem test_rows_loads_stores_transfers :
    (stands [0b10100001, 0x34] (.ldaIzx 0x34) && stands [0b10100101, 0x34] (.ldaZp 0x34) &&
    stands [0b10101001, 0x34] (.ldaImm 0x34) && stands [0b10101101, 0x34, 0x12] (.ldaAbs 0x1234) &&
    stands [0b10110001, 0x34] (.ldaIzy 0x34) && stands [0b10110101, 0x34] (.ldaZpx 0x34) &&
    stands [0b10111001, 0x34, 0x12] (.ldaAbsy 0x1234) && stands [0b10111101, 0x34, 0x12] (.ldaAbsx 0x1234) &&
    stands [0b10100010, 0x34] (.ldxImm 0x34) && stands [0b10100110, 0x34] (.ldxZp 0x34) &&
    stands [0b10101110, 0x34, 0x12] (.ldxAbs 0x1234) && stands [0b10110110, 0x34] (.ldxZpy 0x34) &&
    stands [0b10111110, 0x34, 0x12] (.ldxAbsy 0x1234) && stands [0b10100000, 0x34] (.ldyImm 0x34) &&
    stands [0b10100100, 0x34] (.ldyZp 0x34) && stands [0b10101100, 0x34, 0x12] (.ldyAbs 0x1234) &&
    stands [0b10110100, 0x34] (.ldyZpx 0x34) && stands [0b10111100, 0x34, 0x12] (.ldyAbsx 0x1234) &&
    stands [0b10000001, 0x34] (.staIzx 0x34) && stands [0b10000101, 0x34] (.staZp 0x34) &&
    stands [0b10001101, 0x34, 0x12] (.staAbs 0x1234) && stands [0b10010001, 0x34] (.staIzy 0x34) &&
    stands [0b10010101, 0x34] (.staZpx 0x34) && stands [0b10011001, 0x34, 0x12] (.staAbsy 0x1234) &&
    stands [0b10011101, 0x34, 0x12] (.staAbsx 0x1234) && stands [0b10000110, 0x34] (.stxZp 0x34) &&
    stands [0b10001110, 0x34, 0x12] (.stxAbs 0x1234) && stands [0b10010110, 0x34] (.stxZpy 0x34) &&
    stands [0b10000100, 0x34] (.styZp 0x34) && stands [0b10001100, 0x34, 0x12] (.styAbs 0x1234) &&
    stands [0b10010100, 0x34] (.styZpx 0x34) && stands [0b10101010] .tax && stands [0b10101000] .tay &&
    stands [0b10001010] .txa && stands [0b10011000] .tya && stands [0b10111010] .tsx &&
    stands [0b10011010] .txs) = true := by decide

theorem test_rows_add_subtract :
    (stands [0b01100001, 0x34] (.adcIzx 0x34) && stands [0b01100101, 0x34] (.adcZp 0x34) &&
    stands [0b01101001, 0x34] (.adcImm 0x34) && stands [0b01101101, 0x34, 0x12] (.adcAbs 0x1234) &&
    stands [0b01110001, 0x34] (.adcIzy 0x34) && stands [0b01110101, 0x34] (.adcZpx 0x34) &&
    stands [0b01111001, 0x34, 0x12] (.adcAbsy 0x1234) && stands [0b01111101, 0x34, 0x12] (.adcAbsx 0x1234) &&
    stands [0b11100001, 0x34] (.sbcIzx 0x34) && stands [0b11100101, 0x34] (.sbcZp 0x34) &&
    stands [0b11101001, 0x34] (.sbcImm 0x34) && stands [0b11101101, 0x34, 0x12] (.sbcAbs 0x1234) &&
    stands [0b11110001, 0x34] (.sbcIzy 0x34) && stands [0b11110101, 0x34] (.sbcZpx 0x34) &&
    stands [0b11111001, 0x34, 0x12] (.sbcAbsy 0x1234) &&
    stands [0b11111101, 0x34, 0x12] (.sbcAbsx 0x1234)) = true := by decide

theorem test_rows_logic :
    (stands [0b00100001, 0x34] (.andIzx 0x34) && stands [0b00100101, 0x34] (.andZp 0x34) &&
    stands [0b00101001, 0x34] (.andImm 0x34) && stands [0b00101101, 0x34, 0x12] (.andAbs 0x1234) &&
    stands [0b00110001, 0x34] (.andIzy 0x34) && stands [0b00110101, 0x34] (.andZpx 0x34) &&
    stands [0b00111001, 0x34, 0x12] (.andAbsy 0x1234) && stands [0b00111101, 0x34, 0x12] (.andAbsx 0x1234) &&
    stands [0b00000001, 0x34] (.oraIzx 0x34) && stands [0b00000101, 0x34] (.oraZp 0x34) &&
    stands [0b00001001, 0x34] (.oraImm 0x34) && stands [0b00001101, 0x34, 0x12] (.oraAbs 0x1234) &&
    stands [0b00010001, 0x34] (.oraIzy 0x34) && stands [0b00010101, 0x34] (.oraZpx 0x34) &&
    stands [0b00011001, 0x34, 0x12] (.oraAbsy 0x1234) && stands [0b00011101, 0x34, 0x12] (.oraAbsx 0x1234) &&
    stands [0b01000001, 0x34] (.eorIzx 0x34) && stands [0b01000101, 0x34] (.eorZp 0x34) &&
    stands [0b01001001, 0x34] (.eorImm 0x34) && stands [0b01001101, 0x34, 0x12] (.eorAbs 0x1234) &&
    stands [0b01010001, 0x34] (.eorIzy 0x34) && stands [0b01010101, 0x34] (.eorZpx 0x34) &&
    stands [0b01011001, 0x34, 0x12] (.eorAbsy 0x1234) &&
    stands [0b01011101, 0x34, 0x12] (.eorAbsx 0x1234)) = true := by decide

theorem test_rows_compare_bit :
    (stands [0b11000001, 0x34] (.cmpIzx 0x34) && stands [0b11000101, 0x34] (.cmpZp 0x34) &&
    stands [0b11001001, 0x34] (.cmpImm 0x34) && stands [0b11001101, 0x34, 0x12] (.cmpAbs 0x1234) &&
    stands [0b11010001, 0x34] (.cmpIzy 0x34) && stands [0b11010101, 0x34] (.cmpZpx 0x34) &&
    stands [0b11011001, 0x34, 0x12] (.cmpAbsy 0x1234) && stands [0b11011101, 0x34, 0x12] (.cmpAbsx 0x1234) &&
    stands [0b11100000, 0x34] (.cpxImm 0x34) && stands [0b11100100, 0x34] (.cpxZp 0x34) &&
    stands [0b11101100, 0x34, 0x12] (.cpxAbs 0x1234) && stands [0b11000000, 0x34] (.cpyImm 0x34) &&
    stands [0b11000100, 0x34] (.cpyZp 0x34) && stands [0b11001100, 0x34, 0x12] (.cpyAbs 0x1234) &&
    stands [0b00100100, 0x34] (.bitZp 0x34) && stands [0b00101100, 0x34, 0x12] (.bitAbs 0x1234)) = true := by decide

theorem test_rows_increment_decrement :
    (stands [0b11100110, 0x34] (.incZp 0x34) && stands [0b11101110, 0x34, 0x12] (.incAbs 0x1234) &&
    stands [0b11110110, 0x34] (.incZpx 0x34) && stands [0b11111110, 0x34, 0x12] (.incAbsx 0x1234) &&
    stands [0b11000110, 0x34] (.decZp 0x34) && stands [0b11001110, 0x34, 0x12] (.decAbs 0x1234) &&
    stands [0b11010110, 0x34] (.decZpx 0x34) && stands [0b11011110, 0x34, 0x12] (.decAbsx 0x1234) &&
    stands [0b11101000] .inx && stands [0b11001000] .iny && stands [0b11001010] .dex &&
    stands [0b10001000] .dey) = true := by decide

theorem test_rows_shifts :
    (stands [0b00000110, 0x34] (.aslZp 0x34) && stands [0b00001010] .aslAcc &&
    stands [0b00001110, 0x34, 0x12] (.aslAbs 0x1234) && stands [0b00010110, 0x34] (.aslZpx 0x34) &&
    stands [0b00011110, 0x34, 0x12] (.aslAbsx 0x1234) && stands [0b01000110, 0x34] (.lsrZp 0x34) &&
    stands [0b01001010] .lsrAcc && stands [0b01001110, 0x34, 0x12] (.lsrAbs 0x1234) &&
    stands [0b01010110, 0x34] (.lsrZpx 0x34) && stands [0b01011110, 0x34, 0x12] (.lsrAbsx 0x1234)) = true := by decide

theorem test_rows_rotates :
    (stands [0b00100110, 0x34] (.rolZp 0x34) && stands [0b00101010] .rolAcc &&
    stands [0b00101110, 0x34, 0x12] (.rolAbs 0x1234) && stands [0b00110110, 0x34] (.rolZpx 0x34) &&
    stands [0b00111110, 0x34, 0x12] (.rolAbsx 0x1234) && stands [0b01100110, 0x34] (.rorZp 0x34) &&
    stands [0b01101010] .rorAcc && stands [0b01101110, 0x34, 0x12] (.rorAbs 0x1234) &&
    stands [0b01110110, 0x34] (.rorZpx 0x34) && stands [0b01111110, 0x34, 0x12] (.rorAbsx 0x1234)) = true := by decide

theorem test_rows_control :
    (stands [0b00010000, 0x34] (.bpl 0x34) && stands [0b00110000, 0x34] (.bmi 0x34) &&
    stands [0b01010000, 0x34] (.bvc 0x34) && stands [0b01110000, 0x34] (.bvs 0x34) &&
    stands [0b10010000, 0x34] (.bcc 0x34) && stands [0b10110000, 0x34] (.bcs 0x34) &&
    stands [0b11010000, 0x34] (.bne 0x34) && stands [0b11110000, 0x34] (.beq 0x34) &&
    stands [0b01001100, 0x34, 0x12] (.jmpAbs 0x1234) && stands [0b01101100, 0x34, 0x12] (.jmpInd 0x1234) &&
    stands [0b00100000, 0x34, 0x12] (.jsr 0x1234) && stands [0b01100000] .rts) = true := by decide

theorem test_rows_stack_flags :
    (stands [0b01001000] .pha && stands [0b00001000] .php && stands [0b01101000] .pla && stands [0b00101000] .plp &&
    stands [0b00011000] .clc && stands [0b00111000] .sec && stands [0b01011000] .cli && stands [0b01111000] .sei &&
    stands [0b10111000] .clv && stands [0b11011000] .cld && stands [0b11111000] .sed) = true := by decide

theorem test_rows_nops_system :
    (stands [0b11101010] .nop && stands [0b00000100, 0x34] (.nopZp04 0x34) &&
    stands [0b00001100, 0x34, 0x12] (.nopAbs0C 0x1234) && stands [0b00010100, 0x34] (.nopZpx14 0x34) &&
    stands [0b00011010] .nopImp1A && stands [0b00011100, 0x34, 0x12] (.nopAbsx1C 0x1234) &&
    stands [0b00110100, 0x34] (.nopZpx34 0x34) && stands [0b00111010] .nopImp3A &&
    stands [0b00111100, 0x34, 0x12] (.nopAbsx3C 0x1234) && stands [0b01000100, 0x34] (.nopZp44 0x34) &&
    stands [0b01010100, 0x34] (.nopZpx54 0x34) && stands [0b01011010] .nopImp5A &&
    stands [0b01011100, 0x34, 0x12] (.nopAbsx5C 0x1234) && stands [0b01100100, 0x34] (.nopZp64 0x34) &&
    stands [0b01110100, 0x34] (.nopZpx74 0x34) && stands [0b01111010] .nopImp7A &&
    stands [0b01111100, 0x34, 0x12] (.nopAbsx7C 0x1234) && stands [0b10000000, 0x34] (.nopImm80 0x34) &&
    stands [0b10000010, 0x34] (.nopImm82 0x34) && stands [0b10001001, 0x34] (.nopImm89 0x34) &&
    stands [0b11000010, 0x34] (.nopImmC2 0x34) && stands [0b11010100, 0x34] (.nopZpxD4 0x34) &&
    stands [0b11011010] .nopImpDA && stands [0b11011100, 0x34, 0x12] (.nopAbsxDC 0x1234) &&
    stands [0b11100010, 0x34] (.nopImmE2 0x34) && stands [0b11110100, 0x34] (.nopZpxF4 0x34) &&
    stands [0b11111010] .nopImpFA && stands [0b11111100, 0x34, 0x12] (.nopAbsxFC 0x1234) && stands [0b00000000] .brk &&
    stands [0b01000000] .rti) = true := by decide


/-- R103: an opcode that is never assigned; R102: no operand byte is looked at to find the instruction. -/
theorem test_decode_unassigned : decode nopCandidates [0b11111111, 0b11101010] = .error (.unknownOpcode 0b11111111) := by rfl

/-- R95: BRK's padding byte is not part of the encoding. -/
theorem test_decode_brk : decode nopCandidates [0b00000000, 0b00000000] = .ok (.brk, [0b00000000]) := by rfl

/-- The table word of `LDA $12FF,X`: the first byte in the low bits. -/
theorem test_decode_table_word : decodeTableWord 24 0x12FFBD = some (.ldaAbsx 0x12FF) := by rfl

/-! ## One step on a small state -/

/-- A running state with these registers and these cells, every other cell 0x00 (the conventions of 95_test_vectors.md). -/
def small (pc : Addr) (a x y sp p : Byte) (cells : List (Addr × Byte)) (params : Params := ⟨nopCandidates, .keep⟩) : State :=
  { a := a, x := x, y := y, pc := pc, sp := sp, p := p, cycles := 0, halted := false, haltReason := .none,
    mem := cells.foldl (fun m c => m.write c.1 c.2) [], params := params }

/-- The step answers a next state that passes the check. -/
def after (s : State) (good : State → Bool) : Bool :=
  match step s with
  | .next t => good t
  | .fault _ => false
  | .refused _ => false

theorem test_L1_load_clears_N : after (small 0x0200 0x00 0x00 0x00 0xFD 0xA4 [(0x0200, 0xA9), (0x0201, 0x00)])
    (fun t => t.a == 0x00 && t.p == 0x26 && t.pc == 0x0202 && t.cycles == 2) = true := by decide

theorem test_L3_zpx_wraps : after (small 0x0200 0x00 0xFF 0x00 0xFD 0x24 [(0x0200, 0xB5), (0x0201, 0x10), (0x000F, 0x42)])
    (fun t => t.a == 0x42 && t.cycles == 4) = true := by decide

theorem test_W7_zpx_wraps_in_page_0 : after (small 0x0200 0x00 0x10 0x00 0xFD 0x24 [(0x0200, 0xB5), (0x0201, 0xF8), (0x0008,
      0x5A), (0x0108, 0xA5)])
    (fun t => t.a == 0x5A && t.cycles == 4) = true := by decide

theorem test_L4_absx_penalty : after (small 0x0200 0x00 0x01 0x00 0xFD 0x24 [(0x0200, 0xBD), (0x0201, 0xFF), (0x0202, 0x12),
      (0x1300, 0x01)])
    (fun t => t.a == 0x01 && t.cycles == 5) = true := by decide

theorem test_L11_absx_wraps_at_65536 : after (small 0x0200 0x00 0x01 0x00 0xFD 0x24 [(0x0200, 0xBD), (0x0201, 0xFF), (0x0202,
      0xFF), (0x0000, 0x77)])
    (fun t => t.a == 0x77 && t.cycles == 5) = true := by decide

theorem test_L8_izx_high_byte_wraps : after (small 0x0200 0x00 0x00 0x00 0xFD 0x24 [(0x0200, 0xA1), (0x0201, 0xFF), (0x00FF,
      0x34), (0x0000, 0x12), (0x1234, 0x99)])
    (fun t => t.a == 0x99 && t.p == 0xA4 && t.cycles == 6) = true := by decide

theorem test_L9_izy_penalty : after (small 0x0200 0x00 0x00 0x01 0xFD 0x24 [(0x0200, 0xB1), (0x0201, 0x10), (0x0010, 0xFF),
      (0x0011, 0x12), (0x1300, 0x33)])
    (fun t => t.a == 0x33 && t.cycles == 6) = true := by decide

theorem test_L17_izy_high_byte_wraps : after (small 0x0200 0x00 0x00 0x00 0xFD 0x24 [(0x0200, 0xB1), (0x0201, 0xFF), (0x00FF,
      0x00), (0x0000, 0x03), (0x0100, 0x04), (0x0300, 0x11)])
    (fun t => t.a == 0x11 && t.cycles == 5) = true := by decide

theorem test_L7_zpy_wraps : after (small 0x0200 0x00 0x00 0xF5 0xFD 0x24 [(0x0200, 0xB6), (0x0201, 0x10), (0x0005, 0x00)])
    (fun t => t.x == 0x00 && t.p == 0x26 && t.cycles == 4) = true := by decide

theorem test_L6_store_absx_no_penalty : after (small 0x0200 0x77 0x01 0x00 0xFD 0x24 [(0x0200, 0x9D), (0x0201, 0xFF),
      (0x0202, 0x12)])
    (fun t => t.read 0x1300 == 0x77 && t.cycles == 5) = true := by decide

theorem test_L10_store_izy_no_penalty : after (small 0x0200 0x44 0x00 0x01 0xFD 0x24 [(0x0200, 0x91), (0x0201, 0x10),
      (0x0010, 0xFF), (0x0011, 0x12)])
    (fun t => t.read 0x1300 == 0x44 && t.cycles == 6) = true := by decide

theorem test_L15_store_over_own_opcode : after (small 0x0200 0x12 0x00 0x00 0xFD 0xE7 [(0x0200, 0x8D), (0x0201, 0x00),
      (0x0202, 0x02)])
    (fun t => t.read 0x0200 == 0x12 && t.p == 0xE7 && t.cycles == 4) = true := by decide

theorem test_L12_txs_no_flag : after (small 0x0200 0x00 0x00 0x00 0xFD 0x26 [(0x0200, 0x9A)])
    (fun t => t.sp == 0x00 && t.p == 0x26 && t.cycles == 2) = true := by decide

theorem test_L13_tsx_flags : after (small 0x0200 0x00 0x00 0x00 0x80 0x24 [(0x0200, 0xBA)])
    (fun t => t.x == 0x80 && t.p == 0xA4 && t.cycles == 2) = true := by decide

theorem test_L14_tax : after (small 0x0200 0x00 0x55 0x00 0xFD 0x24 [(0x0200, 0xAA)])
    (fun t => t.x == 0x00 && t.p == 0x26 && t.cycles == 2) = true := by decide

theorem test_W1_adc_signed_overflow : after (small 0x0200 0x7F 0x00 0x00 0xFD 0x24 [(0x0200, 0x69), (0x0201, 0x01)])
    (fun t => t.a == 0x80 && t.p == 0xE4 && t.pc == 0x0202 && t.cycles == 2) = true := by decide

theorem test_A4_adc_ignores_decimal : after (small 0x0200 0x09 0x00 0x00 0xFD 0x2C [(0x0200, 0x69), (0x0201, 0x01)])
    (fun t => t.a == 0x0A && t.p == 0x2C) = true := by decide

theorem test_A26_adc_absx_penalty : after (small 0x0200 0x01 0x01 0x00 0xFD 0x24 [(0x0200, 0x7D), (0x0201, 0xFF), (0x0202,
      0x12), (0x1300, 0x01)])
    (fun t => t.a == 0x02 && t.cycles == 5) = true := by decide

theorem test_A5_sbc_overflow : after (small 0x0200 0x80 0x00 0x00 0xFD 0x25 [(0x0200, 0xE9), (0x0201, 0x01)])
    (fun t => t.a == 0x7F && t.p == 0x65) = true := by decide

theorem test_A7_sbc_borrow_in : after (small 0x0200 0x05 0x00 0x00 0xFD 0x24 [(0x0200, 0xE9), (0x0201, 0x03)])
    (fun t => t.a == 0x01 && t.p == 0x25) = true := by decide

theorem test_A10_and : after (small 0x0200 0xF0 0x00 0x00 0xFD 0x24 [(0x0200, 0x29), (0x0201, 0x0F)])
    (fun t => t.a == 0x00 && t.p == 0x26) = true := by decide

theorem test_A11_ora : after (small 0x0200 0x01 0x00 0x00 0xFD 0x24 [(0x0200, 0x09), (0x0201, 0x80)])
    (fun t => t.a == 0x81 && t.p == 0xA4) = true := by decide

theorem test_A12_eor : after (small 0x0200 0xFF 0x00 0x00 0xFD 0x24 [(0x0200, 0x49), (0x0201, 0xFF)])
    (fun t => t.a == 0x00 && t.p == 0x26) = true := by decide

theorem test_A13_cmp_equal_keeps_V : after (small 0x0200 0x40 0x00 0x00 0xFD 0x64 [(0x0200, 0xC9), (0x0201, 0x40)])
    (fun t => t.a == 0x40 && t.p == 0x67) = true := by decide

theorem test_A16_cmp_unsigned : after (small 0x0200 0x00 0x00 0x00 0xFD 0x24 [(0x0200, 0xC9), (0x0201, 0x80)])
    (fun t => t.p == 0xA4) = true := by decide

theorem test_A17_cpx : after (small 0x0200 0x00 0x00 0x00 0xFD 0x24 [(0x0200, 0xE0), (0x0201, 0x00)])
    (fun t => t.p == 0x27) = true := by decide

theorem test_A18_cpy : after (small 0x0200 0x00 0x00 0x01 0xFD 0x24 [(0x0200, 0xC0), (0x0201, 0xFF)])
    (fun t => t.p == 0x24) = true := by decide

theorem test_A19_bit_operand_bits : after (small 0x0200 0x0F 0x00 0x00 0xFD 0x24 [(0x0200, 0x24), (0x0201, 0x10), (0x0010,
      0xC0)])
    (fun t => t.a == 0x0F && t.p == 0xE6 && t.cycles == 3) = true := by decide

theorem test_A20_bit_clears : after (small 0x0200 0xFF 0x00 0x00 0xFD 0xE4 [(0x0200, 0x24), (0x0201, 0x10), (0x0010, 0x3F)])
    (fun t => t.p == 0x24) = true := by decide

theorem test_A21_inc_wraps : after (small 0x0200 0x00 0x00 0x00 0xFD 0x25 [(0x0200, 0xE6), (0x0201, 0x10), (0x0010, 0xFF)])
    (fun t => t.read 0x0010 == 0x00 && t.p == 0x27 && t.cycles == 5) = true := by decide

theorem test_A25_inc_absx_no_penalty : after (small 0x0200 0x00 0x01 0x00 0xFD 0x24 [(0x0200, 0xFE), (0x0201, 0xFF), (0x0202,
      0x12), (0x1300, 0x7F)])
    (fun t => t.read 0x1300 == 0x80 && t.p == 0xA4 && t.cycles == 7) = true := by decide

theorem test_A22_dec_wraps : after (small 0x0200 0x00 0x00 0x00 0xFD 0x24 [(0x0200, 0xC6), (0x0201, 0x10)])
    (fun t => t.read 0x0010 == 0xFF && t.p == 0xA4 && t.cycles == 5) = true := by decide

theorem test_A23_inx_wraps : after (small 0x0200 0x00 0xFF 0x00 0xFD 0x24 [(0x0200, 0xE8)])
    (fun t => t.x == 0x00 && t.p == 0x26 && t.cycles == 2) = true := by decide

theorem test_A24_dey_wraps : after (small 0x0200 0x00 0x00 0x00 0xFD 0x24 [(0x0200, 0x88)])
    (fun t => t.y == 0xFF && t.p == 0xA4) = true := by decide

theorem test_S1_asl_acc : after (small 0x0200 0x80 0x00 0x00 0xFD 0x24 [(0x0200, 0x0A)])
    (fun t => t.a == 0x00 && t.p == 0x27 && t.cycles == 2) = true := by decide

theorem test_S8_asl_memory : after (small 0x0200 0x00 0x00 0x00 0xFD 0x24 [(0x0200, 0x06), (0x0201, 0x10), (0x0010, 0x81)])
    (fun t => t.read 0x0010 == 0x02 && t.p == 0x25 && t.cycles == 5) = true := by decide

theorem test_S3_lsr_acc : after (small 0x0200 0x01 0x00 0x00 0xFD 0xA4 [(0x0200, 0x4A)])
    (fun t => t.a == 0x00 && t.p == 0x27) = true := by decide

theorem test_S10_lsr_memory : after (small 0x0200 0x00 0x00 0x00 0xFD 0x24 [(0x0200, 0x4E), (0x0201, 0x00), (0x0202, 0x03),
      (0x0300, 0xFF)])
    (fun t => t.read 0x0300 == 0x7F && t.p == 0x25 && t.cycles == 6) = true := by decide

theorem test_S4_rol_acc : after (small 0x0200 0x80 0x00 0x00 0xFD 0x25 [(0x0200, 0x2A)])
    (fun t => t.a == 0x01 && t.p == 0x25) = true := by decide

theorem test_S7_ror_acc : after (small 0x0200 0x00 0x00 0x00 0xFD 0x25 [(0x0200, 0x6A)])
    (fun t => t.a == 0x80 && t.p == 0xA4) = true := by decide

theorem test_S9_ror_absx_no_penalty : after (small 0x0200 0x00 0x01 0x00 0xFD 0x25 [(0x0200, 0x7E), (0x0201, 0xFF), (0x0202,
      0x12), (0x1300, 0x02)])
    (fun t => t.read 0x1300 == 0x81 && t.p == 0xA4 && t.cycles == 7) = true := by decide

theorem test_B1_bcc_backward_cross : after (small 0x1000 0x00 0x00 0x00 0xFD 0x24 [(0x1000, 0x90), (0x1001, 0x80)])
    (fun t => t.pc == 0x0F82 && t.cycles == 4) = true := by decide

theorem test_B3_bne_to_itself : after (small 0x1000 0x00 0x00 0x00 0xFD 0x24 [(0x1000, 0xD0), (0x1001, 0xFE)])
    (fun t => t.pc == 0x1000 && t.cycles == 3) = true := by decide

theorem test_W6_bne_not_taken : after (small 0x10EE 0x00 0x00 0x00 0xFD 0x26 [(0x10EE, 0xD0), (0x10EF, 0x20)])
    (fun t => t.pc == 0x10F0 && t.cycles == 2) = true := by decide

theorem test_W5_beq_taken_cross : after (small 0x10EE 0x00 0x00 0x00 0xFD 0x26 [(0x10EE, 0xF0), (0x10EF, 0x20)])
    (fun t => t.pc == 0x1110 && t.cycles == 4) = true := by decide

theorem test_B4_bpl_wraps : after (small 0xFFF0 0x00 0x00 0x00 0xFD 0x24 [(0xFFF0, 0x10), (0xFFF1, 0x7F)])
    (fun t => t.pc == 0x0071 && t.cycles == 4) = true := by decide

theorem test_B5_bvs_not_taken : after (small 0x1000 0x00 0x00 0x00 0xFD 0x24 [(0x1000, 0x70), (0x1001, 0x10)])
    (fun t => t.pc == 0x1002 && t.cycles == 2) = true := by decide

theorem test_B6_bmi_base_pc : after (small 0x10FD 0x00 0x00 0x00 0xFD 0xA4 [(0x10FD, 0x30), (0x10FE, 0x01)])
    (fun t => t.pc == 0x1100 && t.cycles == 4) = true := by decide

theorem test_B7_bcs_no_cross : after (small 0x10FC 0x00 0x00 0x00 0xFD 0x25 [(0x10FC, 0xB0), (0x10FD, 0x01)])
    (fun t => t.pc == 0x10FF && t.cycles == 3) = true := by decide

theorem test_B12_bvc_taken : after (small 0x0200 0x00 0x00 0x00 0xFD 0x24 [(0x0200, 0x50), (0x0201, 0x02)])
    (fun t => t.pc == 0x0204 && t.cycles == 3) = true := by decide

theorem test_B8_jmp : after (small 0x0200 0x00 0x00 0x00 0xFD 0x24 [(0x0200, 0x4C), (0x0201, 0x34), (0x0202, 0x12)])
    (fun t => t.pc == 0x1234 && t.cycles == 3) = true := by decide

theorem test_W3_jmp_indirect_page_bug : after (small 0x0200 0x00 0x00 0x00 0xFD 0x24 [(0x0200, 0x6C), (0x0201, 0xFF),
      (0x0202, 0x30), (0x30FF, 0x80), (0x3000, 0x40), (0x3100, 0x50)])
    (fun t => t.pc == 0x4080 && t.cycles == 5) = true := by decide

theorem test_W4a_jsr : after (small 0x1000 0x00 0x00 0x00 0xFD 0x24 [(0x1000, 0x20), (0x1001, 0x00), (0x1002, 0x20)])
    (fun t => t.read 0x01FD == 0x10 && t.read 0x01FC == 0x02 && t.sp == 0xFB && t.pc == 0x2000
      && t.cycles == 6) = true := by decide

theorem test_B10_jsr_stack_wraps : after (small 0x0200 0x00 0x00 0x00 0x00 0x24 [(0x0200, 0x20), (0x0201, 0x00), (0x0202,
      0x30)])
    (fun t => t.read 0x0100 == 0x02 && t.read 0x01FF == 0x02 && t.sp == 0xFE && t.pc == 0x3000) = true := by decide

theorem test_W4b_rts : after (small 0x2000 0x00 0x00 0x00 0xFB 0x24 [(0x2000, 0x60), (0x01FD, 0x10), (0x01FC, 0x02)])
    (fun t => t.pc == 0x1003 && t.sp == 0xFD && t.cycles == 6) = true := by decide

theorem test_B11_rts_stack_wraps : after (small 0x0300 0x00 0x00 0x00 0xFF 0x24 [(0x0300, 0x60), (0x0100, 0x41), (0x0101,
      0x12)])
    (fun t => t.sp == 0x01 && t.pc == 0x1242) = true := by decide

theorem test_K1_pha_wraps : after (small 0x0200 0x99 0x00 0x00 0x00 0x24 [(0x0200, 0x48)])
    (fun t => t.read 0x0100 == 0x99 && t.sp == 0xFF && t.cycles == 3) = true := by decide

theorem test_K2_pla_wraps : after (small 0x0200 0x00 0x00 0x00 0xFF 0x24 [(0x0200, 0x68), (0x0100, 0x80)])
    (fun t => t.a == 0x80 && t.p == 0xA4 && t.sp == 0x00 && t.cycles == 4) = true := by decide

theorem test_K4_php_sets_B_and_U : after (small 0x0200 0x00 0x00 0x00 0xFD 0xE7 [(0x0200, 0x08)])
    (fun t => t.read 0x01FD == 0xF7 && t.p == 0xE7 && t.sp == 0xFC && t.cycles == 3) = true := by decide

theorem test_K7k_plp_keep : after (small 0x0200 0x00 0x00 0x00 0xFC 0x34 [(0x0200, 0x28), (0x01FD, 0xFF)] ⟨[], .keep⟩)
    (fun t => t.p == 0xFF && t.sp == 0xFD && t.cycles == 4) = true := by decide

theorem test_K7c_plp_clear : after (small 0x0200 0x00 0x00 0x00 0xFC 0x34 [(0x0200, 0x28), (0x01FD, 0xFF)] ⟨[], .clear⟩)
    (fun t => t.p == 0xEF && t.sp == 0xFD && t.cycles == 4) = true := by decide

theorem test_K8_clc : after (small 0x0200 0x00 0x00 0x00 0xFD 0x25 [(0x0200, 0x18)])
    (fun t => t.p == 0x24 && t.cycles == 2) = true := by decide

theorem test_K9_sec : after (small 0x0200 0x00 0x00 0x00 0xFD 0x24 [(0x0200, 0x38)])
    (fun t => t.p == 0x25) = true := by decide

theorem test_K10_cli : after (small 0x0200 0x00 0x00 0x00 0xFD 0x24 [(0x0200, 0x58)])
    (fun t => t.p == 0x20) = true := by decide

theorem test_K11_sei : after (small 0x0200 0x00 0x00 0x00 0xFD 0x20 [(0x0200, 0x78)])
    (fun t => t.p == 0x24) = true := by decide

theorem test_K12_clv : after (small 0x0200 0x00 0x00 0x00 0xFD 0x64 [(0x0200, 0xB8)])
    (fun t => t.p == 0x24) = true := by decide

theorem test_K13_cld : after (small 0x0200 0x00 0x00 0x00 0xFD 0x2C [(0x0200, 0xD8)])
    (fun t => t.p == 0x24) = true := by decide

theorem test_K14_sed : after (small 0x0200 0x00 0x00 0x00 0xFD 0x24 [(0x0200, 0xF8)])
    (fun t => t.p == 0x2C) = true := by decide

theorem test_K15_nop : after (small 0x0200 0x01 0x02 0x03 0xFD 0xE7 [(0x0200, 0xEA)])
    (fun t => t.a == 0x01 && t.x == 0x02 && t.y == 0x03 && t.p == 0xE7 && t.sp == 0xFD && t.pc == 0x0201
      && t.cycles == 2) = true := by decide

theorem test_K16_brk : after (small 0x0600 0x00 0x00 0x00 0xFD 0x24 [(0x0600, 0x00), (0x0601, 0x00)])
    (fun t => t.read 0x01FD == 0x06 && t.read 0x01FC == 0x02 && t.read 0x01FB == 0x34 && t.sp == 0xFA && t.p == 0x24
      && t.pc == 0x0602 && t.cycles == 7 && t.halted && t.haltReason == .brk) = true := by decide

theorem test_K17_brk_padding_wraps : after (small 0xFFFF 0x00 0x00 0x00 0xFD 0x24 [(0xFFFF, 0x00)])
    (fun t => t.read 0x01FD == 0x00 && t.read 0x01FC == 0x01 && t.pc == 0x0001 && t.halted
      && t.haltReason == .brk) = true := by decide

theorem test_K19_rti : after (small 0x0200 0x00 0x00 0x00 0xFA 0x24 [(0x0200, 0x40), (0x01FB, 0x01), (0x01FC, 0x00), (0x01FD,
      0x30)])
    (fun t => t.p == 0x21 && t.pc == 0x3000 && t.sp == 0xFD && t.cycles == 6) = true := by decide

theorem test_K20in_candidate_in_set : after (small 0x0200 0x00 0x00 0x00 0xFD 0x24 [(0x0200, 0x1A)] ⟨[0x1A], .keep⟩)
    (fun t => t.pc == 0x0201 && t.cycles == 2 && !t.halted) = true := by decide

theorem test_K20out_candidate_out_of_set : after (small 0x0200 0x00 0x00 0x00 0xFD 0x24 [(0x0200, 0x1A)] ⟨[0x3A], .keep⟩)
    (fun t => t.pc == 0x0200 && t.cycles == 0 && t.halted && t.haltReason == .unknownOpcode 0x1A) = true := by decide

theorem test_K21_nop_absx_penalty : after (small 0x0200 0x00 0x01 0x00 0xFD 0x24 [(0x0200, 0x3C), (0x0201, 0xFF), (0x0202,
      0x12)])
    (fun t => t.pc == 0x0203 && t.cycles == 5 && t.p == 0x24 && t.a == 0x00) = true := by decide

theorem test_K22_nop_immediate : after (small 0x0200 0x00 0x00 0x00 0xFD 0x24 [(0x0200, 0x80), (0x0201, 0x55)])
    (fun t => t.pc == 0x0202 && t.cycles == 2 && t.a == 0x00 && t.p == 0x24) = true := by decide

theorem test_W8_unknown_opcode : after (small 0x0200 0x00 0x00 0x00 0xFD 0x24 [(0x0200, 0xFF)])
    (fun t => t.pc == 0x0200 && t.cycles == 0 && t.sp == 0xFD && t.p == 0x24 && t.halted
      && t.haltReason == .unknownOpcode 0xFF) = true := by decide

theorem test_E3_three_bytes_across_the_wrap : after (small 0xFFFE 0x00 0x00 0x00 0xFD 0x24 [(0xFFFE, 0xAD), (0xFFFF, 0x34),
      (0x0000, 0x12), (0x1234, 0x5C)])
    (fun t => t.a == 0x5C && t.pc == 0x0001 && t.cycles == 4) = true := by decide

/-! The instructions without a vector of their own: expected values by hand from R162, R164, R165, R167 to R169, R196 and R197. -/

theorem test_R162_ldy_absx : after (small 0x0200 0x00 0x01 0x00 0xFD 0x24 [(0x0200, 0xBC), (0x0201, 0x00), (0x0202, 0x12),
      (0x1201, 0x80)])
    (fun t => t.y == 0x80 && t.p == 0xA4 && t.cycles == 4) = true := by decide

theorem test_R164_stx_zpy_wraps : after (small 0x0200 0x00 0xAB 0xF5 0xFD 0x26 [(0x0200, 0x96), (0x0201, 0x10)])
    (fun t => t.read 0x0005 == 0xAB && t.p == 0x26 && t.cycles == 4) = true := by decide

theorem test_R165_sty_zpx_wraps : after (small 0x0200 0x00 0xFF 0xCD 0xFD 0x24 [(0x0200, 0x94), (0x0201, 0x10)])
    (fun t => t.read 0x000F == 0xCD && t.cycles == 4) = true := by decide

theorem test_R167_tay : after (small 0x0200 0x80 0x00 0x01 0xFD 0x24 [(0x0200, 0xA8)])
    (fun t => t.y == 0x80 && t.p == 0xA4 && t.cycles == 2) = true := by decide

theorem test_R168_txa : after (small 0x0200 0x01 0x00 0x00 0xFD 0x24 [(0x0200, 0x8A)])
    (fun t => t.a == 0x00 && t.p == 0x26 && t.cycles == 2) = true := by decide

theorem test_R169_tya : after (small 0x0200 0x01 0x00 0x7F 0xFD 0x24 [(0x0200, 0x98)])
    (fun t => t.a == 0x7F && t.p == 0x24 && t.cycles == 2) = true := by decide

theorem test_R196_iny_wraps : after (small 0x0200 0x00 0x00 0xFF 0xFD 0x25 [(0x0200, 0xC8)])
    (fun t => t.y == 0x00 && t.p == 0x27 && t.cycles == 2) = true := by decide

theorem test_R197_dex_to_negative : after (small 0x0200 0x00 0x81 0x00 0xFD 0x24 [(0x0200, 0xCA)])
    (fun t => t.x == 0x80 && t.p == 0xA4 && t.cycles == 2) = true := by decide

theorem test_R194_dec_absx_no_penalty : after (small 0x0200 0x00 0x01 0x00 0xFD 0x65 [(0x0200, 0xDE), (0x0201, 0xFF),
      (0x0202, 0x12), (0x1300, 0x80)])
    (fun t => t.read 0x1300 == 0x7F && t.p == 0x65 && t.cycles == 7) = true := by decide

/-- E4: a step of a halted core changes nothing. -/
theorem test_E4_halted_step (s : State) : step { s with halted := true } = .next { s with halted := true } := by rfl

/-- R1: reset from a halted core, no override: PC from the vector, the inputs in A, X and Y, I and U in P. -/
theorem test_R1_reset_from_vector :
    let t := { small 0x0200 0 0 0 0x10 0xFF [(0xFFFD, 0x06)] with cycles := 99, halted := true, haltReason := .brk }.applyReset
      ⟨none, 0x11, 0x22, 0x33, 0x00⟩
    t.pc = 0x0600 ∧ t.sp = 0xFD ∧ t.p = 0x24 ∧ t.a = 0x11 ∧ t.x = 0x22 ∧ t.y = 0x33 ∧ t.cycles = 0 ∧ t.halted = false := by
  decide

/-- R2: the override wins; p0 supplies N, V, B, D, Z and C. -/
theorem test_R2_reset_override :
    let t := (small 0x0200 0 0 0 0x10 0x24 [(0xFFFD, 0x06)]).applyReset ⟨some 0x1234, 0, 0, 0, 0xFF⟩
    t.pc = 0x1234 ∧ t.p = 0xFF := by decide

/-- R72: the operand a store has just overwritten is the one the next step fetches (E6, its first store). -/
theorem test_E6_store_into_code : after (small 0x0200 0xEA 0 0 0xFD 0x24
      [(0x0200, 0x8D), (0x0201, 0x04), (0x0202, 0x02), (0x0203, 0xA9), (0x0204, 0x00)])
    (fun t => after t (fun u => u.a == 0xEA && u.pc == 0x0205 && u.cycles == 6)) = true := by decide

/-- The host's placing of a word: the next step after reset runs it. -/
theorem test_withFetchWord : after (State.reset.withFetchWord 16 0x80A9) (fun t => t.a == 0x80 && t.pc == 0x0002) = true := by
  decide

/-! ## Witnesses: for every statement with hypotheses, a state and operands that meet them -/

/-- The running state with one instruction at 0x0200. -/
def at200 (cells : List (Addr × Byte)) : State := small 0x0200 0x12 0x34 0x56 0xFD 0x24 cells

theorem witness_CanonicalMemories : ∃ m m2 : Memory, m.wf = true ∧ m2.wf = true ∧ ∀ a : Addr, m.read a = m2.read a :=
  ⟨[(0, 1), (65535, 2)], Memory.write [(65535, 2)] 0 1, by decide, by decide, fun _ => rfl⟩

theorem witness_UnusedBit : State.reset.p.getLsbD 5 = true ∧ (4 : Nat) ≠ 5 ∧ (6 : Nat) ≠ 5 := by decide

theorem witness_ZeroPageModes : ∀ m ∈ [Mode.zp, .zpx, .zpy],
    ∃ i ∈ [Instr.ldaZp 0, .ldaZpx 0xFF, .stxZpy 0], (descriptorOf i).mode = m := by decide

theorem witness_AbsoluteModes : ∀ m ∈ [Mode.abs, .absx, .absy],
    ∃ i ∈ [Instr.jsr 0, .ldaAbsx 0xFFFF, .staAbsy 0], (descriptorOf i).mode = m := by decide

theorem witness_ZeroPagePointers : ∀ m ∈ [Mode.izx, .izy],
    ∃ i ∈ [Instr.staIzx 0, .ldaIzy 0xFF], (descriptorOf i).mode = m := by decide

/-- The pointer's low byte just below 0xFF, and at it (the bug). -/
theorem witness_IndirectJump : (0xFE : Byte).toNat ≠ 255 ∧ (0xFF : Byte).toNat = 255 := by decide

/-- The stack page's ends, and the addresses beside them. -/
theorem witness_Stack : (0x00FF : Addr) ∉ [stackAddr 0x00, stackAddr 0xFF] ∧
    (0x0200 : Addr) ∉ [stackAddr 0x00, stackAddr 0xFF] := by decide

/-- Every list of forms that a statement ranges over has all the forms of R100 and R104. -/
theorem witness_forms (n : Byte) (w : Addr) (s : State) :
    (ldaForms n w s).length = 8 ∧ (ldxForms n w s).length = 5 ∧ (ldyForms n w s).length = 5 ∧
    (storeForms n w s).length = 13 ∧ (adcForms n w s).length = 8 ∧ (sbcForms n w s).length = 8 ∧
    (andForms n w s).length = 8 ∧ (oraForms n w s).length = 8 ∧ (eorForms n w s).length = 8 ∧
    (cmpForms n w s).length = 8 ∧ (cpxForms n w s).length = 3 ∧ (cpyForms n w s).length = 3 ∧
    (branchForms n s).length = 8 ∧ flagForms.length = 7 ∧ (nopForms n w s).length = 28 := by
  refine ⟨rfl, rfl, rfl, rfl, rfl, rfl, rfl, rfl, rfl, rfl, rfl, rfl, rfl, rfl, rfl⟩

theorem witness_modifyForms (n : Byte) (w : Addr) (s : State) :
    (⟨.aslZp n, (zp n).ea, 5⟩ : MemForm) ∈ modifyForms n w s .aslZp .aslZpx .aslAbs .aslAbsx :=
  List.mem_cons_self ..

/-- BranchIf: a branch's descriptor, with the condition met and not met. -/
theorem witness_BranchIf : (descriptorOf (.bne 0x80)).pageCrossExtra = false ∧ (at200 []).flag .z = false ∧
    (at200 []).flag .i = true := by decide

theorem witness_FrameLists : Flag.c ∉ [Flag.z, .n] ∧ Reg.x ∉ [Reg.a] ∧ (0x0200 : Addr) ∉ [(0x01FF : Addr)] := by decide

theorem witness_RegisterWriters : Reg.x ≠ Reg.a ∧ (descriptorOf .nop).mnemonic ∉ registerWriters .x ∧
    (descriptorOf (.incZp 0)).mnemonic ∉ registerWriters .a ∧ (descriptorOf (.incZp 0)).mode ≠ .acc := by decide

theorem witness_FlagWriters : ∀ f ∈ [Flag.n, .v, .b, .d, .i, .z, .c], (descriptorOf .txs).mnemonic ∉ flagWriters f := by decide

theorem witness_MemoryWriters : (descriptorOf (.ldaZp 0)).mnemonic ∉ memoryWriters ∧
    (descriptorOf .aslAcc).mnemonic ∈ memoryWriters ∧ (descriptorOf .aslAcc).mode = .acc := by decide

theorem witness_DecimalFlag : Flag.d ∈ [Flag.d, .i, .b] ∧
    ((descriptorOf (.adcImm 0x09)).mnemonic ∈ [Mnemonic.php, .brk] → Flag.d = .b) ∧
    ((descriptorOf .php).mnemonic ∈ [Mnemonic.php, .brk] → Flag.b = .b) := by decide

/-- The three clauses on the extra cycles, one descriptor each. -/
theorem witness_Cycles : (descriptorOf .brk).pageCrossExtra = false ∧ (descriptorOf .brk).branchExtra = false ∧
    (descriptorOf (.ldaAbsx 0)).pageCrossExtra = true ∧ (descriptorOf (.bne 0)).branchExtra = true := by decide

/-- The crossing at its boundary, for each mode that reports one, X = 0x34 and Y = 0x56: the last base without it and the first
with it. A store reports it too, and has no extra cycle. -/
theorem witness_formCrossed :
    formCrossed (.ldaAbsx 0x12CB) (at200 []) = false ∧ formCrossed (.ldaAbsx 0x12CC) (at200 []) = true ∧
    formCrossed (.ldaAbsy 0x12A9) (at200 []) = false ∧ formCrossed (.ldaAbsy 0x12AA) (at200 []) = true ∧
    formCrossed (.ldaIzy 0x10) (at200 [(0x0010, 0xA9)]) = false ∧
    formCrossed (.ldaIzy 0x10) (at200 [(0x0010, 0xAA)]) = true ∧
    formCrossed (.staAbsx 0x12CC) (at200 []) = true ∧ (descriptorOf (.staAbsx 0)).pageCrossExtra = false ∧
    formCrossed (.ldaAbs 0xFFFF) (at200 []) = false := by decide

/-- `LDA $1234` at 0xFFFE, its last operand byte at 0x0000, in a running core. -/
def wrapped : State := small 0xFFFE 0 0 0 0xFD 0x24 [(0xFFFE, 0xAD), (0xFFFF, 0x34), (0x0000, 0x12)]

theorem witness_StepRunsTheDecodedInstruction : wrapped.halted = false ∧
    decode wrapped.params.unofficialNops [wrapped.read wrapped.pc, wrapped.read (wrapped.pc + 1), wrapped.read (wrapped.pc + 2)]
      = .ok (.ldaAbs 0x1234, []) := by
  constructor <;> rfl

theorem witness_StepRunsTheEncodedInstruction : wrapped.halted = false ∧
    (Instr.ldaAbs 0x1234).wf wrapped.params.unofficialNops = true ∧
    ∀ k v, (encode (.ldaAbs 0x1234))[k]? = some v → wrapped.read (wrapped.pc + BitVec.ofNat 16 k) = v := by
  refine ⟨rfl, rfl, fun k v h => ?_⟩
  match k with
  | 0 => cases h; rfl
  | 1 => cases h; rfl
  | 2 => cases h; rfl
  | k + 3 => cases h

theorem witness_UnknownOpcode : (at200 [(0x0200, 0xFF)]).halted = false ∧
    decode (at200 [(0x0200, 0xFF)]).params.unofficialNops
      [(at200 [(0x0200, 0xFF)]).read 0x0200, (at200 [(0x0200, 0xFF)]).read 0x0201, (at200 [(0x0200, 0xFF)]).read 0x0202]
      = .error (.unknownOpcode 0xFF) := by
  constructor <;> rfl

/-- Both ways of being unassigned: never assigned, and a candidate outside UNOFFICIAL_NOPS. -/
theorem witness_UnassignedOpcodes : UnknownAt (at200 [(0x0200, 0xFF)]) ∧
    UnknownAt (small 0x0200 0 0 0 0xFD 0x24 [(0x0200, 0x1A)] ⟨[0x3A], .clear⟩) := by
  constructor
  · exact .inl (by decide)
  · exact .inr (by decide)

theorem witness_Running : State.reset.halted = false ∧ (at200 [(0x0200, 0xEA)]).halted = false := by decide

theorem witness_HaltedCore : (at200 []).haltUnknown.halted = true := by rfl

/-- A non-transferring instruction whose next PC wraps, and BRK at the last address. -/
theorem witness_NonTransferStep :
    decode nopCandidates [wrapped.read wrapped.pc, wrapped.read (wrapped.pc + 1), wrapped.read (wrapped.pc + 2)]
      = .ok (.ldaAbs 0x1234, []) ∧ (descriptorOf (.ldaAbs 0x1234)).mnemonic ∉ transfers ∧
    decode nopCandidates [(small 0xFFFF 0 0 0 0xFD 0x24 []).read 0xFFFF, 0, 0] = .ok (.brk, [0, 0]) := by
  refine ⟨rfl, by decide, rfl⟩

/-- The invariant holds of a running state and of one halted by BRK. -/
theorem witness_Invariant : (at200 [(0x0200, 0xEA)]).Inv ∧
    (at200 []).enterBreak.Inv := by
  constructor <;> constructor <;> decide

theorem witness_RunIsSafe : (at200 [(0x0200, 0xEA)]).Inv ∧ (at200 [(0x0200, 0xEA)]).halted = false :=
  ⟨witness_Invariant.1, rfl⟩

theorem witness_ResetOperation : (⟨some 0x1234, 0, 0, 0, 0⟩ : ResetInput).pcOverride = some 0x1234 ∧
    (⟨none, 0, 0, 0, 0⟩ : ResetInput).pcOverride = none ∧ Flag.b ≠ .i := by decide

theorem witness_DecodeOfEncode : (Instr.nopAbsx3C 0xFFFF).wf [0x3C] = true ∧ (Instr.ldaAbs 0xFFFF).wf [] = true := by decide

theorem witness_DecodedBytes : decode [0x3C] [0x3C, 0xFF, 0xFF, 0x00] = .ok (.nopAbsx3C 0xFFFF, [0x00]) := by rfl

theorem witness_OpcodeIsUnknown : (0x02 : Byte) ∈ neverAssigned ∧ (0xFF : Byte) ∈ neverAssigned ∧
    (0x1A : Byte) ∈ nopCandidates ∧ (0x1A : Byte) ∉ [(0x3A : Byte)] ∧ decode [0x3A] [0x1A] = .error (.unknownOpcode 0x1A) := by
  refine ⟨by decide, by decide, by decide, by decide, rfl⟩

/-- The ends of 0..255, the values beside them, and an address beyond 65536. -/
theorem witness_HostAccessors : (0 : Int) ≤ 255 ∧ (-1 : Int) < 0 ∧ (255 : Int) < 256 ∧ 0 % 65536 ≠ 65535 % 65536 ∧
    ((at200 []).hostWrite 65536 255).hostRead 0 = 0xFF ∧ ((at200 []).hostWrite 0 0).hostRead 65536 = 0 ∧
    (at200 []).hostWrite 0 256 = at200 [] ∧ (at200 []).hostWrite 0 (-1) = at200 [] := by decide

/-- A load that ends exactly at 65536, the addresses below it, one that is a byte too long, and the two loads of no bytes at the
edge: at 65536 (log 16) and beyond. -/
theorem witness_ProgramLoad : 65534 + [(1 : Byte), 2].length ≤ 65536 ∧ [(1 : Byte), 2][1]? = some 2 ∧
    (0xFFFD : Addr).toNat < 65534 ∧ 65536 < 65535 + [(1 : Byte), 2].length ∧
    ((at200 []).loadProgram [] 65534 [1, 2]).read 0xFFFF = 2 ∧
    (at200 []).loadProgram [] 65535 [1, 2] = at200 [] ∧
    (at200 []).loadProgram [(0, 7)] 65536 [] = { at200 [] with mem := [(0, 7)] } ∧
    (at200 []).loadProgram [(0, 7)] 65537 [] = at200 [] := by decide

/-- A listing's two kinds of record: a decoded instruction, and an unknown opcode. -/
theorem witness_Disassembly :
    (at200 [(0x0200, 0xFF), (0x0201, 0xA9), (0x0202, 0x01)]).disassemble 3 0x0200
      = [.data 0x0200 0xFF, .instr 0x0201 (.ldaImm 0x01), .instr 0x0203 .brk] := by rfl

end Sys2Proof.Tests
end

section
/-! The scope family (spec/00_scope.md): the 16-bit reads of R13 as arithmetic, and `setZN` (R16) with its frame. -/

namespace Sys2Proof.Proofs.Scope

open Sys2Proof.Machine Sys2Proof.Claims

/-! ## The addresses of the high bytes in R13 -/

theorem succ_eq_ofNat (a : Addr) : a + 1 = BitVec.ofNat 16 (a.toNat + 1) := by
  apply BitVec.eq_of_toNat_eq
  simp

theorem zext16_eq_ofNat (v : Byte) : zext16 v = BitVec.ofNat 16 v.toNat := by
  apply BitVec.eq_of_toNat_eq
  simp
  omega

theorem zext16_succ_eq_ofNat (v : Byte) : zext16 (v + 1) = BitVec.ofNat 16 ((v.toNat + 1) % 256) := by
  rw [zext16_eq_ofNat, BitVec.toNat_add]
  rfl

/-- The successor inside the page: the page is kept, the low byte wraps. -/
theorem succInPage_eq_ofNat (a : Addr) :
    hiLo (highByte a) (lowByte a + 1) = BitVec.ofNat 16 (a.toNat / 256 * 256 + (a.toNat + 1) % 256) := by
  apply BitVec.eq_of_toNat_eq
  simp
  omega

/-! ## The 16-bit reads of R13 -/

theorem read16_toNat (s : State) (a : Addr) :
    (s.mem.read16 a).toNat = (s.read (BitVec.ofNat 16 (a.toNat + 1))).toNat * 256 + (s.read a).toNat := by
  rw [Memory.read16, hiLo_toNat, succ_eq_ofNat]
  rfl

theorem read16Zp_toNat (s : State) (v : Byte) :
    (s.read16Zp v).toNat =
      (s.read (BitVec.ofNat 16 ((v.toNat + 1) % 256))).toNat * 256 + (s.read (BitVec.ofNat 16 v.toNat)).toNat := by
  rw [State.read16Zp, hiLo_toNat, zext16_succ_eq_ofNat, zext16_eq_ofNat]

theorem read16Bug_toNat (s : State) (a : Addr) :
    (s.read16Bug a).toNat =
      (s.read (BitVec.ofNat 16 (a.toNat / 256 * 256 + (a.toNat + 1) % 256))).toNat * 256 + (s.read a).toNat := by
  rw [State.read16Bug, hiLo_toNat, succInPage_eq_ofNat]

/-- Settles O1: a read after the write is `State.write_read`, the write is a record update of `mem` alone, and each 16-bit read
has its arithmetic lemma. -/
theorem writeChangesExactlyTheAddressedByte : Obligations.WriteChangesExactlyTheAddressedByte := by
  intro s a v
  have hsame : (s.write a v).read a = v := by rw [State.write_read, if_pos rfl]
  have hother : ∀ b, b ≠ a → (s.write a v).read b = s.read b := fun b hb => by rw [State.write_read, if_neg hb]
  exact ⟨hsame, hother, ⟨s.mem.write a v, rfl⟩, read16_toNat s a, read16Zp_toNat s v, read16Bug_toNat s a⟩

/-! ## Z and N of a value (R16) -/

theorem beq_zero_eq_zOf (v : Byte) : (v == 0) = zOf v := by
  rw [zOf, Bool.eq_iff_iff, beq_iff_eq, decide_eq_true_iff, ← BitVec.toNat_inj]
  rfl

theorem bit7_eq_nOf (v : Byte) : v.getLsbD 7 = nOf v :=
  (BitVec.msb_eq_getLsbD_last v).symm.trans (BitVec.msb_eq_decide v)

theorem setZN_flag_z (s : State) (v : Byte) : (s.setZN v).flag .z = zOf v := by
  rw [State.setZN_flag, if_neg (by decide), if_pos rfl, beq_zero_eq_zOf]

theorem setZN_flag_n (s : State) (v : Byte) : (s.setZN v).flag .n = nOf v := by
  rw [State.setZN_flag, if_pos rfl, bit7_eq_nOf]

theorem setZN_flag_of_ne (s : State) (v : Byte) (f : Flag) (hz : f ≠ .z) (hn : f ≠ .n) :
    (s.setZN v).flag f = s.flag f := by
  rw [State.setZN_flag, if_neg hn, if_neg hz]

/-- `setZN` writes P alone, and of P only Z and N. -/
theorem setZN_frame (s : State) (v : Byte) : Frame s (s.setZN v) [] [.z, .n] [] where
  registers r _ := by cases r <;> rfl
  flags f hf := by
    obtain ⟨hz, hn⟩ : f ≠ .z ∧ f ≠ .n := by simpa using hf
    exact setZN_flag_of_ne s v f hz hn
  unused := (State.readP_unused _).trans (State.readP_unused s).symm
  memory _ _ := rfl
  halted := rfl
  reason := rfl
  params := rfl

/-- Settles O3: the flags by `State.setZN_flag`, PC and cycles by its field lemmas, the rest by `setZN_frame`. -/
theorem zeroAndNegativeFollowTheValue : Obligations.ZeroAndNegativeFollowTheValue := fun s v =>
  ⟨setZN_flag_z s v, setZN_flag_n s v, s.setZN_pc v, s.setZN_cycles v, setZN_frame s v⟩

end Sys2Proof.Proofs.Scope
end

section
/-! The state family (spec/10_state.md): the hardwired bit 5 of P (R31, R37), and that D, I and B influence nothing but themselves
and the pushed P (R39). -/

namespace Sys2Proof.Proofs.StatusRegister

open Sys2Proof.Machine Sys2Proof.Claims

variable {f : Flag} {s t : State}

/-! ## States that differ in one flag only -/

/-- `t` is `s` with another P, whose flags besides `f` are those of `s`. Unlike `AgreeBut` it compares the memories as data, so
that every operation of the model can be applied to both sides. -/
structure EqualBut (f : Flag) (s t : State) : Prop where
  rest : t = { s with p := t.p }
  flags : ∀ g, g ≠ f → t.flag g = s.flag g

/-- Writing one flag changes nothing else. -/
theorem equalBut_setFlag (f : Flag) (on : Bool) (s : State) : EqualBut f s (s.setFlag f on) where
  rest := rfl
  flags g hg := by rw [State.setFlag_flag, if_neg hg]

namespace EqualBut

/-- What does not depend on P is the same. -/
theorem same {α : Type} (h : EqualBut f s t) (obs : State → α)
    (hobs : ∀ (u : State) (q : Byte), obs { u with p := q } = obs u) : obs t = obs s :=
  (congrArg obs h.rest).trans (hobs s t.p)

theorem a (h : EqualBut f s t) : t.a = s.a := h.same State.a fun _ _ => rfl
theorem x (h : EqualBut f s t) : t.x = s.x := h.same State.x fun _ _ => rfl
theorem y (h : EqualBut f s t) : t.y = s.y := h.same State.y fun _ _ => rfl
theorem sp (h : EqualBut f s t) : t.sp = s.sp := h.same State.sp fun _ _ => rfl
theorem mem (h : EqualBut f s t) : t.mem = s.mem := h.same State.mem fun _ _ => rfl
theorem params (h : EqualBut f s t) : t.params = s.params := h.same State.params fun _ _ => rfl
theorem pull (h : EqualBut f s t) : t.pull = s.pull := h.same State.pull fun _ _ => rfl
theorem read (h : EqualBut f s t) (c : Addr) : t.read c = s.read c := h.same (State.read · c) fun _ _ => rfl

theorem agreeBut (h : EqualBut f s t) : AgreeBut f s t where
  registers
    | .a => h.a
    | .x => h.x
    | .y => h.y
    | .sp => h.sp
  pc := h.same State.pc fun _ _ => rfl
  flags := h.flags
  memory := h.read
  cycles := h.same State.cycles fun _ _ => rfl
  halted := h.same State.halted fun _ _ => rfl
  reason := h.same State.haltReason fun _ _ => rfl
  params := h.params

/-- An operation that neither reads nor writes P commutes with replacing P, and keeps the agreement. -/
theorem map (h : EqualBut f s t) (op : State → State)
    (hop : ∀ (u : State) (q : Byte), op { u with p := q } = { op u with p := q }) : EqualBut f (op s) (op t) := by
  have hp : ∀ u, (op u).p = u.p := fun u => (congrArg State.p (hop u u.p)).trans rfl
  constructor
  · rw [hp t, ← hop s t.p]
    exact congrArg op h.rest
  · intro g hg
    simp only [State.flag, hp]
    exact h.flags g hg

theorem writeP {v w : Byte} (h : EqualBut f s t)
    (hvw : ∀ g, g ≠ f → w.getLsbD (flagBit g) = v.getLsbD (flagBit g)) : EqualBut f (s.writeP v) (t.writeP w) where
  rest := (congrArg (State.writeP w) h.rest).trans rfl
  flags g hg := by rw [State.writeP_flag, State.writeP_flag, hvw g hg]

theorem setFlag (h : EqualBut f s t) (k : Flag) (on : Bool) : EqualBut f (s.setFlag k on) (t.setFlag k on) :=
  h.writeP fun g hg => by
    rw [setBit_getLsbD _ _ _ _ (flagBit_lt g), setBit_getLsbD _ _ _ _ (flagBit_lt g)]
    exact congrArg (ite _ on) (h.flags g hg)

theorem setZN (h : EqualBut f s t) (v : Byte) : EqualBut f (s.setZN v) (t.setZN v) :=
  (h.setFlag _ _).setFlag _ _

theorem compare {r q : Byte} (h : EqualBut f s t) (hr : q = r) (m : Byte) :
    EqualBut f (s.compare r m) (t.compare q m) :=
  hr ▸ (h.setFlag _ _).setZN _

/-! ## Loads, arithmetic, shifts and branches -/

theorem loadA {v w : Byte} (h : EqualBut f s t) (hv : w = v) : EqualBut f (loadA v s) (loadA w t) :=
  hv ▸ (h.map (State.setA w) fun _ _ => rfl).setZN w

theorem loadX {v w : Byte} (h : EqualBut f s t) (hv : w = v) : EqualBut f (loadX v s) (loadX w t) :=
  hv ▸ (h.map (State.setX w) fun _ _ => rfl).setZN w

theorem loadY {v w : Byte} (h : EqualBut f s t) (hv : w = v) : EqualBut f (loadY v s) (loadY w t) :=
  hv ▸ (h.map (State.setY w) fun _ _ => rfl).setZN w

theorem addToA (h : EqualBut f s t) (hc : t.flag .c = s.flag .c) (m : Byte) :
    EqualBut f (addToA m s) (addToA m t) := by
  rw [Machine.addToA, Machine.addToA, h.a, hc]
  exact (((h.map (State.setA _) fun _ _ => rfl).setFlag _ _).setFlag _ _).setZN _

theorem bitTest (h : EqualBut f s t) (m : Byte) : EqualBut f (bitTest m s) (bitTest m t) := by
  rw [Machine.bitTest, Machine.bitTest, h.a]
  exact ((h.setFlag _ _).setFlag _ _).setFlag _ _

/-- A read-modify-write agrees when its new value and the flags set on the way do (R220). -/
theorem modifyEffect (h : EqualBut f s t) (acc : Bool) (ea : Addr) {fn : Byte → State → Byte × State}
    (hv : ∀ v, (fn v t).1 = (fn v s).1) (hs : ∀ v, EqualBut f (fn v s).2 (fn v t).2) :
    EqualBut f (modifyEffect acc ea fn s) (modifyEffect acc ea fn t) := by
  cases acc
  · simp only [Machine.modifyEffect, h.read, hv, Bool.false_eq_true, ↓reduceIte]
    exact ((hs _).map (State.write ea _) fun _ _ => rfl).setZN _
  · simp only [Machine.modifyEffect, h.a, hv, ↓reduceIte]
    exact ((hs _).map (State.setA _) fun _ _ => rfl).setZN _

/-- A shift or rotate reads C alone (R221 to R224). -/
theorem modifyEffect_shifted (h : EqualBut f s t) (hc : t.flag .c = s.flag .c) (acc : Bool) (ea : Addr)
    (fn : Byte → Bool → Byte × Bool) :
    EqualBut f (Machine.modifyEffect acc ea (shifted fn) s) (Machine.modifyEffect acc ea (shifted fn) t) := by
  refine h.modifyEffect acc ea (fun v => ?_) (fun v => ?_)
  · simp only [shifted, hc]
  · simp only [shifted, hc]
    exact h.setFlag _ _

theorem branchIf (h : EqualBut f s t) {k : Flag} (hk : t.flag k = s.flag k) (value : Bool) (r : Byte) :
    EqualBut f (branchIf (s.flag k == value) r s) (branchIf (t.flag k == value) r t) := by
  rw [hk]
  refine h.map (Machine.branchIf _ r) fun _ _ => ?_
  cases s.flag k == value <;> rfl

/-! ## P on the stack -/

/-- The register's B bit reaches a pull's result only as B again, under `keep` (R265, log 6). -/
theorem pullP (h : EqualBut f s t) : EqualBut f s.pullP t.pullP := by
  refine (h.map State.pulled fun _ _ => rfl).writeP fun g hg => ?_
  simp only [pulledP_getLsbD, h.params, h.pull]
  by_cases hb : g = .b
  · subst hb
    have hB : t.p.getLsbD 4 = s.p.getLsbD 4 := h.flags .b hg
    rw [hB]
  · rw [if_neg hb, if_neg hb]

theorem returnFromInterrupt (h : EqualBut f s t) : EqualBut f s.returnFromInterrupt t.returnFromInterrupt :=
  h.pullP.map (fun u => u.pulled.pulled.setPc u.pull16) fun _ _ => rfl

/-- B is forced to 1 in the byte that PHP and BRK push, so the register's B does not reach it. -/
theorem pushedP (h : EqualBut .b s t) : t.readP ||| 0x30 = s.readP ||| 0x30 := by
  have hflag : ∀ g, g ≠ Flag.b → t.readP.getLsbD (flagBit g) = s.readP.getLsbD (flagBit g) := fun g hg => by
    rw [State.readP_flag, State.readP_flag, h.flags g hg]
  apply BitVec.eq_of_getLsbD_eq
  intro j hj
  rw [BitVec.getLsbD_or, BitVec.getLsbD_or]
  interval_cases j
  · exact congrArg (· || _) (hflag .c (by decide))
  · exact congrArg (· || _) (hflag .z (by decide))
  · exact congrArg (· || _) (hflag .i (by decide))
  · exact congrArg (· || _) (hflag .d (by decide))
  · exact (Bool.or_true _).trans (Bool.or_true _).symm
  · exact (Bool.or_true _).trans (Bool.or_true _).symm
  · exact congrArg (· || _) (hflag .v (by decide))
  · exact congrArg (· || _) (hflag .n (by decide))

theorem pushP (h : EqualBut .b s t) : EqualBut .b (pushP s) (pushP t) := by
  rw [Machine.pushP, Machine.pushP, h.pushedP]
  exact h.map (State.push _) fun _ _ => rfl

theorem softwareBreak (h : EqualBut .b s t) : EqualBut .b (softwareBreak s) (softwareBreak t) := by
  have hframe : EqualBut .b (s.skipByte.push16 s.skipByte.pc) (t.skipByte.push16 t.skipByte.pc) :=
    h.map (fun u => u.skipByte.push16 u.skipByte.pc) fun _ _ => rfl
  rw [Machine.softwareBreak, Machine.softwareBreak, State.enterBreak, State.enterBreak, State.skipByte_readP,
    State.skipByte_readP, h.pushedP]
  exact ((hframe.map (State.push _) fun _ _ => rfl).setFlag .i true).map (State.raiseHalt .brk) fun _ _ => rfl

/-! ## Every effect, and every instruction -/

/-- No effect reads D, I or B, but PHP and BRK, which push D and I. -/
theorem effectOf (h : EqualBut f s t) (hf : f ∈ [Flag.d, .i, .b]) (acc : Bool) (ea : Addr) (v : Byte) (m : Mnemonic)
    (hm : m ∈ [Mnemonic.php, .brk] → f = .b) : EqualBut f (effectOf acc ea v s m) (effectOf acc ea v t m) := by
  have hread : ∀ g, g ∉ [Flag.d, .i, .b] → t.flag g = s.flag g := fun g hg => h.flags g fun he => hg (he ▸ hf)
  have hn : t.flag .n = s.flag .n := hread .n (by decide)
  have hv : t.flag .v = s.flag .v := hread .v (by decide)
  have hz : t.flag .z = s.flag .z := hread .z (by decide)
  have hc : t.flag .c = s.flag .c := hread .c (by decide)
  cases m
  case sta | stx | sty | txs | jmp | jsr | rts | pha | nop =>
    exact h.map (Machine.effectOf acc ea v · _) fun _ _ => rfl
  case lda => exact h.loadA rfl
  case ldx => exact h.loadX rfl
  case ldy => exact h.loadY rfl
  case tax => exact h.loadX h.a
  case tay => exact h.loadY h.a
  case txa => exact h.loadA h.x
  case tya => exact h.loadA h.y
  case tsx => exact h.loadX h.sp
  case adc => exact h.addToA hc v
  case sbc => exact h.addToA hc (~~~v)
  case and => exact h.loadA (congrArg (· &&& v) h.a)
  case ora => exact h.loadA (congrArg (· ||| v) h.a)
  case eor => exact h.loadA (congrArg (· ^^^ v) h.a)
  case cmp => exact h.compare h.a v
  case cpx => exact h.compare h.x v
  case cpy => exact h.compare h.y v
  case bit => exact h.bitTest v
  case inc => exact h.modifyEffect acc ea (fn := incremented) (fun _ => rfl) fun _ => h
  case dec => exact h.modifyEffect acc ea (fn := decremented) (fun _ => rfl) fun _ => h
  case inx => exact h.loadX (congrArg (· + 1) h.x)
  case iny => exact h.loadY (congrArg (· + 1) h.y)
  case dex => exact h.loadX (congrArg (· - 1) h.x)
  case dey => exact h.loadY (congrArg (· - 1) h.y)
  case asl => exact h.modifyEffect_shifted hc acc ea aslStep
  case lsr => exact h.modifyEffect_shifted hc acc ea lsrStep
  case rol => exact h.modifyEffect_shifted hc acc ea rolStep
  case ror => exact h.modifyEffect_shifted hc acc ea rorStep
  case bpl | bmi => exact h.branchIf hn _ v
  case bvc | bvs => exact h.branchIf hv _ v
  case bcc | bcs => exact h.branchIf hc _ v
  case bne | beq => exact h.branchIf hz _ v
  case clc | sec | cli | sei | clv | cld | sed => exact h.setFlag _ _
  case pla => exact (h.map State.pulled fun _ _ => rfl).loadA h.pull
  case plp => exact h.pullP
  case rti => exact h.returnFromInterrupt
  case php =>
    obtain rfl := hm (by decide)
    exact h.pushP
  case brk =>
    obtain rfl := hm (by decide)
    exact h.softwareBreak

/-- Two states that differ in D, I or B only, run through one instruction, still do. -/
theorem exec (h : EqualBut f s t) (hf : f ∈ [Flag.d, .i, .b]) (i : Instr)
    (hi : (descriptorOf i).mnemonic ∈ [Mnemonic.php, .brk] → f = .b) :
    ∃ s' t', exec i s = .next s' ∧ exec i t = .next t' ∧ EqualBut f s' t' := by
  have hform : formOf t i = formOf s i := formOf_congr i s t h.x h.y h.mem
  refine ⟨_, _, exec_effect i s, exec_effect i t, ?_⟩
  rw [hform]
  exact (h.effectOf hf _ _ _ _ hi).map (State.account _ _) fun _ _ => rfl

end EqualBut

/-- Settles O39: the state with the flag set is equal but for the flag, and every instruction keeps that (`EqualBut.exec`). -/
theorem decimalFlagAffectsNoResult : Obligations.DecimalFlagAffectsNoResult := by
  intro i s f on hf hi
  obtain ⟨t, t2, ht, ht2, h⟩ := (equalBut_setFlag f on s).exec hf i hi
  exact ⟨t, t2, ht, ht2, h.agreeBut⟩

/-! ## The hardwired bit -/

theorem orUnused_getLsbD_of_ne (v : Byte) {k : Nat} (hk : k ≠ 5) : (v ||| 0x20).getLsbD k = v.getLsbD k := by
  rw [orUnused_getLsbD, decide_eq_false hk, Bool.or_false]

theorem applyReset_unused (s : State) (inp : ResetInput) : (s.applyReset inp).p.getLsbD 5 = true := by
  change (inp.p0 ||| 0x24).getLsbD 5 = true
  rw [BitVec.getLsbD_or]
  exact Bool.or_true _

theorem modifyEffect_unused (acc : Bool) (ea : Addr) (fn : Byte → State → Byte × State) (s : State) :
    (modifyEffect acc ea fn s).p.getLsbD 5 = true := by
  cases acc <;> exact State.setZN_unused ..

theorem branchIf_p (cond : Bool) (r : Byte) (s : State) : (branchIf cond r s).p = s.p := by
  cases cond <;> rfl

/-- An effect leaves P as it is, or its last write of P forces bit 5. -/
theorem effectOf_unused (h : s.p.getLsbD 5 = true) (acc : Bool) (ea : Addr) (v : Byte) (m : Mnemonic) :
    (effectOf acc ea v s m).p.getLsbD 5 = true := by
  cases m
  case sta | stx | sty | txs | jmp | jsr | rts | pha | php | nop => exact h
  case bpl | bmi | bvc | bvs | bcc | bcs | bne | beq => exact (branchIf_p _ v s).symm ▸ h
  case lda | ldx | ldy | tax | tay | txa | tya | tsx | pla | adc | sbc | and | ora | eor | inx | iny | dex | dey =>
    exact State.setZN_unused ..
  case cmp | cpx | cpy => exact State.compare_unused ..
  case inc | dec | asl | lsr | rol | ror => exact modifyEffect_unused acc ea _ s
  case bit | clc | sec | cli | sei | clv | cld | sed | brk => exact State.setFlag_unused ..
  case plp | rti => exact State.pullP_unused s

theorem exec_unused (h : s.p.getLsbD 5 = true) (i : Instr) : ∃ t, exec i s = .next t ∧ t.p.getLsbD 5 = true :=
  ⟨_, exec_effect i s, effectOf_unused h _ _ _ _⟩

theorem step_unused (h : s.p.getLsbD 5 = true) : ∃ t, step s = .next t ∧ t.p.getLsbD 5 = true := by
  cases hs : s.halted with
  | true => exact ⟨s, step_halted s hs, h⟩
  | false =>
    obtain ⟨i, -, hstep⟩ | ⟨why, -, hstep⟩ := step_running s hs
    · exact hstep ▸ exec_unused (s := s.pastOperands i) h i
    · exact ⟨s.haltUnknown, hstep, h⟩

/-- Settles O4: every write of P is `State.writeP`, or reset's, and forces bit 5; a step is `step_unused`. -/
theorem unusedBitOfPIsHardwiredToOne : Obligations.UnusedBitOfPIsHardwiredToOne := fun s v f on inp _ =>
  ⟨s.writeP_unused v, orUnused_getLsbD_of_ne v, s.setFlag_unused f on, s.pullP_unused, applyReset_unused s inp,
    s.readP_unused, orUnused_getLsbD_of_ne s.p, step_unused⟩

end Sys2Proof.Proofs.StatusRegister
end

section
/-! The addressing family (spec/40_addressing.md): the effective address, the page crossing and the operand bytes of each memory
mode (R123 to R131). -/

namespace Sys2Proof.Proofs.Addressing

open Sys2Proof.Machine Sys2Proof.Proofs.Scope

/-- How many bytes the fetch moves PC depends on the mode alone (R91). -/
theorem fetchedBytes_of_mode_mem {i : Instr} {modes : List Mode} {k : Nat} (hi : (descriptorOf i).mode ∈ modes)
    (hk : ∀ m ∈ modes, modeOperandBytes m = k) : fetchedBytes i = 1 + k :=
  congrArg (1 + ·) (hk _ hi)

/-- Settles O7: the addresses are the resolver's arithmetic lemmas; no zero-page mode sets the crossing. -/
theorem zeroPageModesWrapInPageZero : Obligations.ZeroPageModesWrapInPageZero := fun s b =>
  ⟨zp_ea_toNat b, rfl, zpx_ea_toNat b s, rfl, zpy_ea_toNat b s, rfl,
    fun _ hi => fetchedBytes_of_mode_mem (k := 1) hi (by decide)⟩

/-! ## Absolute modes (R126 to R128) -/

theorem indexed_hiLo_ea_toNat (hi lo index : Byte) :
    (indexed (hiLo hi lo) index).ea.toNat = (hi.toNat * 256 + lo.toNat + index.toNat) % 65536 := by
  rw [indexed_ea_toNat, hiLo_toNat]

/-- R133: the base's high byte is the second operand byte. -/
theorem indexed_hiLo_crossed (hi lo index : Byte) :
    (indexed (hiLo hi lo) index).crossed =
      decide ((hi.toNat * 256 + lo.toNat + index.toNat) % 65536 / 256 ≠ hi.toNat) := by
  have hpage : (hiLo hi lo).toNat / 256 = hi.toNat := by rw [← highByte_toNat, highByte_hiLo]
  rw [indexed_crossed, hpage, hiLo_toNat]

/-- Settles O8: absx and absy are `indexed` at the base that the operand bytes spell. -/
theorem absoluteModesWrapAt65536 : Obligations.AbsoluteModesWrapAt65536 := fun s lo hi =>
  ⟨hiLo_toNat hi lo, rfl, indexed_hiLo_ea_toNat hi lo s.x, indexed_hiLo_crossed hi lo s.x,
    indexed_hiLo_ea_toNat hi lo s.y, indexed_hiLo_crossed hi lo s.y,
    fun _ hm => fetchedBytes_of_mode_mem (k := 2) hm (by decide)⟩

/-! ## The indirect jump (R129) -/

theorem hiLo_eq_ofNat (hi lo : Byte) : hiLo hi lo = BitVec.ofNat 16 (hi.toNat * 256 + lo.toNat) := by
  rw [← hiLo_toNat, BitVec.ofNat_toNat, BitVec.setWidth_eq]

/-- The successor of a pointer inside its page: the next address, but from offset 0xFF the start of the same page. -/
theorem succInPage_hiLo (hi lo : Byte) :
    (hiLo hi lo).toNat / 256 * 256 + ((hiLo hi lo).toNat + 1) % 256 =
      if lo.toNat = 255 then hi.toNat * 256 else hi.toNat * 256 + lo.toNat + 1 := by
  have := lo.isLt
  rw [hiLo_toNat]
  split <;> omega

theorem read16Bug_hiLo_toNat (s : State) (hi lo : Byte) :
    (s.read16Bug (hiLo hi lo)).toNat =
      (s.read (BitVec.ofNat 16 (if lo.toNat = 255 then hi.toNat * 256 else hi.toNat * 256 + lo.toNat + 1))).toNat * 256 +
        (s.read (BitVec.ofNat 16 (hi.toNat * 256 + lo.toNat))).toNat := by
  rw [read16Bug_toNat, succInPage_hiLo, ← hiLo_eq_ofNat]

/-- Away from the end of a page the bug does not show. -/
theorem read16Bug_eq_read16 (s : State) {hi lo : Byte} (h : lo.toNat ≠ 255) :
    s.read16Bug (hiLo hi lo) = s.mem.read16 (hiLo hi lo) := by
  apply BitVec.eq_of_toNat_eq
  rw [read16Bug_hiLo_toNat, if_neg h, read16_toNat, hiLo_toNat, ← hiLo_eq_ofNat]

/-- Settles O9: `ind` is `Read16Bug` of the pointer, and `succInPage_hiLo` says where that finds its high byte. -/
theorem indirectJumpKeepsThePageBug : Obligations.IndirectJumpKeepsThePageBug := fun s lo hi =>
  ⟨read16Bug_hiLo_toNat s hi lo, read16Bug_eq_read16 s, rfl, rfl⟩

/-! ## Zero-page pointers (R130, R131) -/

/-- Settles O10: both modes dereference with `Read16ZP`, whose word depends on the pointer byte alone; izx indexes the byte
before, izy the word after. -/
theorem zeroPagePointersWrapAndIndex : Obligations.ZeroPagePointersWrapAndIndex := by
  intro s b word
  have hword (v : Byte) : (s.read16Zp v).toNat = word v.toNat := by
    simp only [word, read16Zp_toNat, Nat.mod_eq_of_lt v.isLt]
  have hizx : (izx b s).ea.toNat = word ((b.toNat + s.x.toNat) % 256) := by
    rw [izx, hword, BitVec.toNat_add]
  have hizy : (izy b s).ea.toNat = (word b.toNat + s.y.toNat) % 65536 := by
    rw [izy, indexed_ea_toNat, hword]
  have hcrossed : (izy b s).crossed = decide ((word b.toNat + s.y.toNat) % 65536 / 256 ≠ word b.toNat / 256) := by
    rw [izy, indexed_crossed, hword]
  exact ⟨hizx, rfl, hizy, hcrossed, fun _ hi => fetchedBytes_of_mode_mem (k := 1) hi (by decide)⟩

end Sys2Proof.Proofs.Addressing
end

section
/-! The engine family (spec/41_engine.md): a halted core stays as it is (R148). -/

namespace Sys2Proof.Proofs.Engine

open Sys2Proof.Machine

/-- A run from a state that its own step answers ends in that state. -/
theorem run_of_step_self (M : Host.Core) (s : M.State) (h : M.step s = .next s) (k : Nat) : M.run k s = .next s := by
  induction k with
  | zero => rfl
  | succ k ih => rw [run_succ_of_next M s s k h, ih]

theorem applyReset_halted (s : State) (inp : ResetInput) : (s.applyReset inp).halted = false := rfl

/-- Settles O47: a halted core's step answers the state itself (`step_halted`), so every run does; reset writes `halted`. -/
theorem haltedCoreStaysAsItIs : Obligations.HaltedCoreStaysAsItIs := fun s h =>
  ⟨run_of_step_self Sys2Proof.core s (step_halted s h), applyReset_halted s⟩

end Sys2Proof.Proofs.Engine
end

section
/-! The arithmetic family (spec/43_arith_logic.md): `AddWithCarry` (R181) as arithmetic on unsigned and on signed numbers, and
`Compare` (R188) with its frame. -/

namespace Sys2Proof.Proofs.ArithLogic

open Sys2Proof.Machine Sys2Proof.Claims Sys2Proof.Proofs.Scope

/-! ## AddWithCarry (R181) -/

/-- R181's sign test `(x ^ y) & 0x80 = 0` compares the sign bits. -/
theorem xor_and_sign_beq_zero (x y : Byte) : ((x ^^^ y) &&& 0x80 == 0) = (x.getLsbD 7 == y.getLsbD 7) := by
  have hmask : (x ^^^ y) &&& 0x80 = if (x ^^^ y).getLsbD 7 then 0x80 else 0 := BitVec.and_twoPow (x ^^^ y) 7
  rw [hmask, BitVec.getLsbD_xor]
  cases x.getLsbD 7 <;> cases y.getLsbD 7 <;> decide

section
variable (a m : Byte) (cin : Bool)

theorem addWithCarry_result_toNat :
    (addWithCarry a m cin).result.toNat = (a.toNat + m.toNat + (if cin then 1 else 0)) % 256 := by
  cases cin <;> rfl

theorem addWithCarry_c :
    (addWithCarry a m cin).c = decide (255 < a.toNat + m.toNat + (if cin then 1 else 0)) := by
  cases cin <;> rfl

theorem addWithCarry_v :
    (addWithCarry a m cin).v =
      (a.getLsbD 7 == m.getLsbD 7 && a.getLsbD 7 != (addWithCarry a m cin).result.getLsbD 7) := by
  rw [bne, ← xor_and_sign_beq_zero, ← xor_and_sign_beq_zero]
  rfl

/-- Overflow with the three sign bits read as comparisons with 128. -/
theorem addWithCarry_v_iff :
    (addWithCarry a m cin).v = true ↔
      (128 ≤ a.toNat ↔ 128 ≤ m.toNat) ∧
        ¬(128 ≤ a.toNat ↔ 128 ≤ (a.toNat + m.toNat + (if cin then 1 else 0)) % 256) := by
  simp only [addWithCarry_v, bit7_eq_nOf, nOf, addWithCarry_result_toNat, Bool.and_eq_true, beq_iff_eq, bne_iff_ne,
    ne_eq, decide_eq_decide]

/-- With the operands' signed values written as their unsigned ones, less 256 from 128 up, this is linear arithmetic. -/
theorem addWithCarry_v_iff_signed :
    (addWithCarry a m cin).v = true ↔
      a.toInt + m.toInt + (if cin then 1 else 0) < -128 ∨ 127 < a.toInt + m.toInt + (if cin then 1 else 0) := by
  have ha : a.toInt = if 2 * a.toNat < 256 then (a.toNat : Int) else a.toNat - 256 := BitVec.toInt_eq_toNat_cond a
  have hm : m.toInt = if 2 * m.toNat < 256 then (m.toNat : Int) else m.toNat - 256 := BitVec.toInt_eq_toNat_cond m
  rw [addWithCarry_v_iff]
  cases cin
  · simp only [Bool.false_eq_true, ↓reduceIte]
    omega
  · simp only [↓reduceIte]
    omega

end

/-- Settles O5: result and carry are those of the exact sum, and overflow has its bitwise and its signed reading. -/
theorem addWithCarryIsExactSumWithCarryAndOverflow : Obligations.AddWithCarryIsExactSumWithCarryAndOverflow :=
  fun a m cin => ⟨addWithCarry_result_toNat a m cin, addWithCarry_c a m cin, addWithCarry_v a m cin,
    addWithCarry_v_iff_signed a m cin⟩

/-! ## Compare (R188) -/

theorem sub_toNat_eq_mod (r m : Byte) : (r - m).toNat = (r.toNat + 256 - m.toNat) % 256 := by
  have hm := m.isLt
  rw [BitVec.toNat_sub]
  omega

theorem compare_flag_c (s : State) (r m : Byte) : (s.compare r m).flag .c = decide (m.toNat ≤ r.toNat) := by
  rw [State.compare_flag, if_neg (by decide), if_neg (by decide), if_pos rfl]

theorem compare_flag_z (s : State) (r m : Byte) :
    (s.compare r m).flag .z = decide ((r.toNat + 256 - m.toNat) % 256 = 0) := by
  rw [State.compare, setZN_flag_z, zOf, sub_toNat_eq_mod]

theorem compare_flag_n (s : State) (r m : Byte) :
    (s.compare r m).flag .n = decide (128 ≤ (r.toNat + 256 - m.toNat) % 256) := by
  rw [State.compare, setZN_flag_n, nOf, sub_toNat_eq_mod]

/-- `Compare` writes P alone, and of P only Z, N and C. -/
theorem compare_frame (s : State) (r m : Byte) : Frame s (s.compare r m) [] [.z, .n, .c] [] where
  registers q _ := by cases q <;> rfl
  flags f hf := by
    obtain ⟨hz, hn, hc⟩ : f ≠ .z ∧ f ≠ .n ∧ f ≠ .c := by simpa using hf
    rw [State.compare_flag, if_neg hn, if_neg hz, if_neg hc]
  unused := (State.readP_unused _).trans (State.readP_unused s).symm
  memory _ _ := rfl
  halted := rfl
  reason := rfl
  params := rfl

/-- Settles O6: the three flags by their lemmas, PC and cycles by the field lemmas, the rest by `compare_frame`. -/
theorem compareSetsCarryWhenNotBelow : Obligations.CompareSetsCarryWhenNotBelow := fun s r m =>
  ⟨compare_flag_c s r m, compare_flag_z s r m, compare_flag_n s r m, s.compare_pc r m, s.compare_cycles r m,
    compare_frame s r m⟩

end Sys2Proof.Proofs.ArithLogic
end

section
/-! The control transfer family (spec/45_control_transfer.md): `BranchIf` (R240), its target, its cycles and its frame. -/

namespace Sys2Proof.Proofs.ControlTransfer

open Sys2Proof.Machine Sys2Proof.Claims

/-! ## A branch's target and its cycles -/

/-- R132: adding the sign-extended offset byte adds its signed value modulo 65536. -/
theorem add_sext16_toNat (a : Addr) (r : Byte) :
    (a + sext16 r).toNat = (((a.toNat : Int) + r.toInt) % 65536).toNat := by
  have hsum : a + sext16 r = BitVec.ofInt 16 ((a.toNat : Int) + r.toInt) := by
    rw [BitVec.ofInt_add, BitVec.ofInt_natCast, BitVec.ofNat_toNat, BitVec.setWidth_eq]
    rfl
  rw [hsum, BitVec.toNat_ofInt]
  rfl

theorem pageCrossed_toNat (base ea : Addr) :
    (pageCrossed base ea).toNat = if ea.toNat / 256 ≠ base.toNat / 256 then 1 else 0 := by
  simp only [pageCrossed, ← highByte_toNat, ne_eq, BitVec.toNat_inj]
  by_cases h : highByte ea = highByte base <;> simp [h]

theorem branchIf_true_cycles (r : Byte) (s : State) :
    (branchIf true r s).cycles = s.cycles + 1 +
      (if (branchIf true r s).pc.toNat / 256 ≠ s.pc.toNat / 256 then 1 else 0) := by
  rw [← pageCrossed_toNat, Nat.add_assoc]
  rfl

/-! ## What a branch leaves unchanged -/

theorem frame_refl (s : State) : Frame s s [] [] [] where
  registers _ _ := rfl
  flags _ _ := rfl
  unused := rfl
  memory _ _ := rfl
  halted := rfl
  reason := rfl
  params := rfl

/-- PC and the cycle counter are outside the frame. -/
theorem setPc_addCycles_frame (s : State) (w : Addr) (k : Nat) : Frame s ((s.setPc w).addCycles k) [] [] [] where
  registers q _ := by cases q <;> rfl
  flags _ _ := rfl
  unused := rfl
  memory _ _ := rfl
  halted := rfl
  reason := rfl
  params := rfl

/-- The engine's accounting keeps a frame: it writes the cycle counter alone. -/
theorem account_frame {s t : State} {regs : List Reg} {flags : List Flag} {stored : List Addr}
    (h : Frame s t regs flags stored) (d : Descriptor) (crossed : Bool) :
    Frame s (t.account d crossed) regs flags stored where
  registers q hq := by
    rw [← h.registers q hq]
    cases q <;> rfl
  flags := h.flags
  unused := h.unused
  memory := h.memory
  halted := h.halted
  reason := h.reason
  params := h.params

theorem branchIf_frame (cond : Bool) (r : Byte) (s : State) : Frame s (branchIf cond r s) [] [] [] := by
  obtain ⟨-, hkept⟩ | ⟨-, htaken⟩ := branchIf_cases cond r s
  · rw [hkept]
    exact frame_refl s
  · rw [htaken]
    exact setPc_addCycles_frame s _ _

/-- Without a page-cross cycle the engine adds the base cost alone (R145). -/
theorem account_false_cycles (d : Descriptor) (s : State) : (s.account d false).cycles = s.cycles + d.baseCycles := by
  rw [State.account_cycles, Bool.and_false]
  rfl

/-- Settles O23: the target, the cycles and the frame of `branchIf` have their lemmas; a branch on a flag is `branchIf` on the
flag's test, followed by the engine's accounting. -/
theorem branchIfAddsOffsetAndCycles : Obligations.BranchIfAddsOffsetAndCycles := fun s r =>
  ⟨rfl, add_sext16_toNat s.pc r, branchIf_true_cycles r s, branchIf_frame true r s, fun d _ _ _ =>
    ⟨_, rfl, State.account_pc .., account_false_cycles d _, account_frame (branchIf_frame _ r s) d false⟩⟩

end Sys2Proof.Proofs.ControlTransfer
end

section
/-! The stack family (spec/46_stack_flags_system.md): push and pull (R260, R261), the pointer's wrap modulo 256 and the bytes of
page 1 that they write and read. -/

namespace Sys2Proof.Proofs.Stack

open Sys2Proof.Machine Sys2Proof.Proofs.ArithLogic

/-! ## The stack pointer wraps modulo 256 -/

theorem push_sp_toNat (s : State) (v : Byte) : (s.push v).sp.toNat = (s.sp.toNat + 255) % 256 :=
  sub_toNat_eq_mod s.sp 1

theorem push16_sp_toNat (s : State) (w : Addr) : (s.push16 w).sp.toNat = (s.sp.toNat + 254) % 256 := by
  rw [State.push16, push_sp_toNat, push_sp_toNat]
  omega

theorem pulled_sp_toNat (s : State) : s.pulled.sp.toNat = (s.sp.toNat + 1) % 256 := BitVec.toNat_add s.sp 1

/-! ## What a push writes -/

theorem push_read_slot (s : State) (v : Byte) : (s.push v).read (stackAddr s.sp) = v := by
  rw [State.push_read, if_pos rfl]

theorem push_read_of_ne (s : State) (v : Byte) (a : Addr) (h : a ≠ stackAddr s.sp) : (s.push v).read a = s.read a := by
  rw [State.push_read, if_neg h]

/-- One stack slot and the next lower one are two bytes, also where SP wraps. -/
theorem stackAddr_ne_stackAddr_sub_one (sp : Byte) : stackAddr sp ≠ stackAddr (sp - 1) := by
  rw [ne_eq, stackAddr_inj, eq_comm, sub_eq_self]
  decide

/-- The byte pushed second leaves the one pushed first in place. -/
theorem push16_read_high (s : State) (w : Addr) : (s.push16 w).read (stackAddr s.sp) = highByte w := by
  rw [State.push16, push_read_of_ne _ _ _ (stackAddr_ne_stackAddr_sub_one s.sp), push_read_slot]

theorem push16_read_low (s : State) (w : Addr) : (s.push16 w).read (stackAddr (s.sp - 1)) = lowByte w :=
  push_read_slot (s.push (highByte w)) (lowByte w)

theorem push16_read_of_notMem (s : State) (w : Addr) (a : Addr) (h : a ∉ [stackAddr s.sp, stackAddr (s.sp - 1)]) :
    (s.push16 w).read a = s.read a := by
  obtain ⟨hhigh, hlow⟩ : a ≠ stackAddr s.sp ∧ a ≠ stackAddr (s.sp - 1) := by simpa using h
  rw [State.push16_read, if_neg hlow, if_neg hhigh]

/-! ## What a pull reads -/

theorem pull16_toNat (s : State) :
    s.pull16.toNat = (s.read (stackAddr (s.sp + 2))).toNat * 256 + (s.read (stackAddr (s.sp + 1))).toNat := by
  have hsp : s.sp + 1 + 1 = s.sp + 2 := BitVec.add_assoc s.sp 1 1
  rw [State.pull16, hiLo_toNat, State.pull, State.pull, State.pulled_read, State.pulled_sp, hsp]

/-- Settles O11: a push is one store at the stack slot, `push16` is two of them at two slots, a pull moves SP alone; SP steps
modulo 256. -/
theorem stackStaysInItsPageAndWraps : Obligations.StackStaysInItsPageAndWraps := by
  intro s v w
  have hhigh : ((s.push16 w).read (stackAddr s.sp)).toNat = w.toNat / 256 := by rw [push16_read_high, highByte_toNat]
  have hlow : ((s.push16 w).read (stackAddr (s.sp - 1))).toNat = w.toNat % 256 := by rw [push16_read_low, lowByte_toNat]
  exact ⟨stackAddr_toNat, push_sp_toNat s v, push_read_slot s v, push_read_of_ne s v, push16_sp_toNat s w, hhigh, hlow,
    push16_read_of_notMem s w, pulled_sp_toNat s, rfl, pull16_toNat s, s.pulled_read⟩

end Sys2Proof.Proofs.Stack
end

section
/-! The exceptions family (spec/60_exceptions.md): an unknown opcode writes the latch alone (R301), and only it and BRK set it
(R300, R302, R304). -/

namespace Sys2Proof.Proofs.Exceptions

open Sys2Proof.Machine

/-- Settles O44: an undecoded instruction is `State.haltUnknown` (`step_error`), which writes the latch and its reason. -/
theorem unknownOpcodeHaltsWithNothingElseWritten : Obligations.UnknownOpcodeHaltsWithNothingElseWritten :=
  fun s why hs hdec => step_error s why hs ((s.instrAt_error s.pc why).mpr hdec)

section Latch
/-! ## Which instruction sets the latch -/

variable (s : State)

theorem modifyEffect_halted (acc : Bool) (ea : Addr) (fn : Byte → State → Byte × State)
    (hfn : ∀ v, (fn v s).2.halted = s.halted) : (modifyEffect acc ea fn s).halted = s.halted := by
  cases acc
  · exact hfn (s.read ea)
  · exact hfn s.a

theorem branchIf_halted (cond : Bool) (r : Byte) : (branchIf cond r s).halted = s.halted := by
  cases cond <;> rfl

theorem softwareBreak_halted : (softwareBreak s).halted = true := s.skipByte.enterBreak_halted

/-- Every effect but BRK's is a sequence of updates of other fields. -/
theorem effectOf_halted (acc : Bool) (ea : Addr) (v : Byte) (m : Mnemonic) (hm : m ≠ .brk) :
    (effectOf acc ea v s m).halted = s.halted := by
  cases m
  case brk => contradiction
  case bpl | bmi | bvc | bvs | bcc | bcs | bne | beq => exact branchIf_halted s _ v
  case inc | dec | asl | lsr | rol | ror => exact modifyEffect_halted s acc ea _ fun _ => rfl
  case jsr => rw [effectOf, jumpToSubroutine, State.setPc_halted, State.push16_halted]
  case rti => exact s.returnFromInterrupt_halted
  all_goals rfl

theorem eq_brk_of_mnemonic {i : Instr} (h : (descriptorOf i).mnemonic = .brk) : i = .brk := by
  cases i
  case brk => rfl
  all_goals contradiction

/-- From a running state BRK alone halts: the account after the effect keeps the latch. -/
theorem exec_halts_iff (i : Instr) (hs : s.halted = false) :
    ∃ t, exec i s = .next t ∧ (t.halted = true ↔ i = .brk) := by
  refine ⟨_, exec_effect i s, ?_⟩
  rw [State.account_halted]
  by_cases hi : i = .brk
  · subst hi
    exact iff_of_true (softwareBreak_halted s) rfl
  · rw [effectOf_halted s _ _ _ _ (mt eq_brk_of_mnemonic hi), hs]
    exact iff_of_false Bool.false_ne_true hi

end Latch

/-- Settles O46: a running step executes the decoded instruction, which halts if it is BRK (`exec_halts_iff`), or halts at the
unknown opcode (`step_running`). -/
theorem onlyUnknownOpcodesAndBreakHalt : Obligations.OnlyUnknownOpcodesAndBreakHalt := by
  intro s hs
  simp only [← State.instrAt_ok, ← State.instrAt_error]
  obtain ⟨i, hi, hstep⟩ | ⟨why, hwhy, hstep⟩ := step_running s hs
  · rw [hstep, hi]
    simpa using exec_halts_iff (s.pastOperands i) i hs
  · exact ⟨s.haltUnknown, hstep, iff_of_true (s.raiseHalt_halted _) (.inl ⟨why, hwhy⟩)⟩

end Sys2Proof.Proofs.Exceptions
end

section
/-! The encoding family (spec/30_encoding.md): the opcode map read both ways, so that decode and encode are inverse to each other
(R90 to R104) and the unknown opcodes are those of R103 and R104. -/

namespace Sys2Proof.Proofs.Encoding

open Sys2Proof.Machine Sys2Proof.Claims

/-! ## Which instructions have a descriptor -/

/-- The candidates of R104 are the instructions whose opcode is in the list of candidates. -/
theorem candidateOpcode_eq (i : Instr) :
    i.candidateOpcode = if nopCandidates.contains (opcodeOf i) then some (opcodeOf i) else none := by
  cases i <;> rfl

theorem wf_eq (nops : List Byte) (i : Instr) :
    i.wf nops = !(nopCandidates.contains (opcodeOf i) && !nops.contains (opcodeOf i)) := by
  rw [Instr.wf, candidateOpcode_eq]
  cases nopCandidates.contains (opcodeOf i)
  · rfl
  · exact (Bool.not_not _).symm

/-- The table of a build holds the map's slot for a well-formed instruction. -/
theorem tableSlot_of_wf {nops : List Byte} {i : Instr} (h : i.wf nops = true) :
    tableSlot nops (opcodeOf i) = (opcodeMap[(opcodeOf i).toNat]?).join := by
  rw [wf_eq, Bool.not_eq_true'] at h
  rw [tableSlot, h]
  rfl

/-! ## The map holds every instruction -/

/-- The slot at an instruction's opcode builds the instruction from its own operand bytes. -/
theorem opcodeMap_builds (i : Instr) (rest : List Byte) :
    ∃ slot, (opcodeMap[(opcodeOf i).toNat]?).join = some slot ∧
      buildInstr (opcodeOf i) slot (operandBytesOf i ++ rest) = .ok (i, rest) := by
  cases i <;>
    exact ⟨_, rfl, by simp only [operandBytesOf, List.cons_append, List.nil_append, buildInstr, hiLo_bytes]⟩

/-- Settles O54: a well-formed instruction's slot is the map's, and that builds the instruction. -/
theorem decodeOfEncodeIsTheInstruction : Obligations.DecodeOfEncodeIsTheInstruction := by
  intro nops i rest hwf
  obtain ⟨slot, hslot, hbuild⟩ := opcodeMap_builds i rest
  rw [encode, List.cons_append, decode, tableSlot_of_wf hwf, hslot]
  exact hbuild

/-! ## Every slot holds an instruction of its own opcode -/

/-- What a slot builds is encoded as the slot's opcode and the bytes it was built from. -/
def SlotEncodes (op : Byte) : Slot → Prop
  | .f1 i => encode i = [op]
  | .f2 mk => ∀ b, encode (mk b) = [op, b]
  | .f3 mk => ∀ w, encode (mk w) = [op, lowByte w, highByte w]

/-- Slot by slot: what stands at index `k` of the map encodes the opcode `k`. -/
theorem opcodeMap_zipIdx_encodes :
    ∀ p ∈ opcodeMap.zipIdx, ∀ slot, p.1 = some slot → SlotEncodes (BitVec.ofNat 8 p.2) slot := by
  simp only [opcodeMap, opcodeMap03, opcodeMap47, opcodeMap8B, opcodeMapCF, List.zipIdx_append, List.zipIdx_cons,
    List.zipIdx_nil, List.forall_mem_append, List.forall_mem_cons, List.not_mem_nil, false_imp_iff, implies_true, and_true,
    true_and, Option.some.injEq, reduceCtorEq, forall_eq', SlotEncodes, List.length_append, List.length_cons, List.length_nil]
  and_intros <;> (intros; rfl)

theorem opcodeMap_encodes {op : Byte} {slot : Slot} (h : (opcodeMap[op.toNat]?).join = some slot) :
    SlotEncodes op slot := by
  have hmem : (some slot, op.toNat) ∈ opcodeMap.zipIdx :=
    List.mk_mem_zipIdx_iff_getElem?.mpr (Option.join_eq_some_iff.mp h)
  simpa using opcodeMap_zipIdx_encodes _ hmem slot rfl

theorem buildInstr_encodes {op : Byte} {slot : Slot} (h : SlotEncodes op slot) {bs rest : List Byte} {i : Instr}
    (hi : buildInstr op slot bs = .ok (i, rest)) : encode i ++ rest = op :: bs := by
  match slot, bs, hi with
  | .f1 j, bs, hi =>
    cases hi
    exact congrArg (· ++ rest) h
  | .f2 mk, b :: bs, hi =>
    cases hi
    exact congrArg (· ++ rest) (h b)
  | .f3 mk, b1 :: b2 :: bs, hi =>
    cases hi
    rw [h (hiLo b2 b1), lowByte_hiLo, highByte_hiLo]
    rfl

theorem tableSlot_some {nops : List Byte} {op : Byte} {slot : Slot} (h : tableSlot nops op = some slot) :
    (nopCandidates.contains op && !nops.contains op) = false ∧ (opcodeMap[op.toNat]?).join = some slot := by
  unfold tableSlot at h
  split at h
  · contradiction
  · exact ⟨Bool.not_eq_true _ ▸ ‹_›, h⟩

/-- Settles O55: the slot that the opcode selects encodes that opcode and the operand bytes it reads. -/
theorem decodedBytesAreTheEncoding : Obligations.DecodedBytesAreTheEncoding := by
  intro nops bs rest i h
  cases bs with
  | nil => contradiction
  | cons op bs =>
    rw [decode] at h
    cases hslot : tableSlot nops op with
    | none =>
      rw [hslot] at h
      contradiction
    | some slot =>
      rw [hslot] at h
      obtain ⟨hlisted, hmap⟩ := tableSlot_some hslot
      have hbytes : encode i ++ rest = op :: bs := buildInstr_encodes (opcodeMap_encodes hmap) h
      have hop : opcodeOf i = op := (List.cons_eq_cons.mp hbytes).1
      refine ⟨?_, hbytes.symm⟩
      rw [wf_eq, hop, hlisted]
      rfl

/-! ## The unknown opcodes (R103, R104) -/

theorem opcodeMap_isNone (op : Byte) : (opcodeMap[op.toNat]?).join.isNone = neverAssigned.contains op := by
  decide +revert

theorem tableSlot_eq_none_iff (nops : List Byte) (op : Byte) :
    tableSlot nops op = none ↔ op ∈ neverAssigned ∨ (op ∈ nopCandidates ∧ op ∉ nops) := by
  have hmap : (opcodeMap[op.toNat]?).join = none ↔ op ∈ neverAssigned := by
    rw [← Option.isNone_iff_eq_none, opcodeMap_isNone, List.contains_iff_mem]
  rw [tableSlot, ← hmap]
  by_cases h : op ∈ nopCandidates ∧ op ∉ nops <;> simp [h]

/-- A slot of the table never answers that its opcode is unknown. -/
theorem buildInstr_ne_unknownOpcode (op : Byte) (slot : Slot) (bs : List Byte) :
    buildInstr op slot bs ≠ .error (.unknownOpcode op) := by
  fun_cases buildInstr <;> nofun

/-- Settles O56: the decoder answers that an opcode is unknown exactly when its slot is empty. -/
theorem opcodeIsUnknownExactlyWhenUnassigned : Obligations.OpcodeIsUnknownExactlyWhenUnassigned := by
  intro nops op rest
  rw [← tableSlot_eq_none_iff, decode]
  cases tableSlot nops op with
  | none => exact iff_of_true rfl rfl
  | some slot => exact iff_of_false (buildInstr_ne_unknownOpcode op slot rest) nofun

/-- Settles O57: the documented words by computing their slots; the candidate by both directions of the round trip. -/
theorem sampleWordsDecodeAsTheTableSays : Obligations.SampleWordsDecodeAsTheTableSays := fun nops =>
  ⟨rfl, rfl, rfl, rfl, rfl, rfl, rfl, rfl, rfl, rfl,
    fun h => List.contains_iff_mem.mp (decodedBytesAreTheEncoding nops _ _ _ h).1,
    fun h => decodeOfEncodeIsTheInstruction nops .nopImp1A [] (List.contains_iff_mem.mpr h)⟩

end Sys2Proof.Proofs.Encoding
end

section
/-! The frame of each operation and effect: what it leaves unchanged. Frames compose (`frame_seq`), so an effect's frame is that of
the updates it is written with. -/

namespace Sys2Proof.Proofs.Frames

open Sys2Proof.Machine Sys2Proof.Claims Sys2Proof.Proofs.Scope Sys2Proof.Proofs.ArithLogic Sys2Proof.Proofs.ControlTransfer

section
variable {s t u : State} {regs regs' : List Reg} {flags flags' : List Flag} {stored stored' : List Addr}

/-! ## Composing frames -/

/-- One operation after another writes what either writes. -/
theorem frame_seq (h : Frame s t regs flags stored) (h' : Frame t u regs' flags' stored') :
    Frame s u (regs ++ regs') (flags ++ flags') (stored ++ stored') where
  registers r hr := by
    rw [List.mem_append, not_or] at hr
    exact (h'.registers r hr.2).trans (h.registers r hr.1)
  flags f hf := by
    rw [List.mem_append, not_or] at hf
    exact (h'.flags f hf.2).trans (h.flags f hf.1)
  unused := h'.unused.trans h.unused
  memory a ha := by
    rw [List.mem_append, not_or] at ha
    exact (h'.memory a ha.2).trans (h.memory a ha.1)
  halted := h'.halted.trans h.halted
  reason := h'.reason.trans h.reason
  params := h'.params.trans h.params

/-- A frame with longer lists says less. -/
theorem frame_mono (h : Frame s t regs flags stored) (hregs : ∀ r ∈ regs, r ∈ regs') (hflags : ∀ f ∈ flags, f ∈ flags')
    (hstored : ∀ a ∈ stored, a ∈ stored') : Frame s t regs' flags' stored' where
  registers r hr := h.registers r (mt (hregs r) hr)
  flags f hf := h.flags f (mt (hflags f) hf)
  unused := h.unused
  memory a ha := h.memory a (mt (hstored a) ha)
  halted := h.halted
  reason := h.reason
  params := h.params

end

section
variable (s : State) (v : Byte)

/-! ## The single updates -/

theorem setA_frame : Frame s (s.setA v) [.a] [] [] where
  registers
    | .a, h => absurd (List.mem_singleton_self _) h
    | .x, _ | .y, _ | .sp, _ => rfl
  flags _ _ := rfl
  unused := rfl
  memory _ _ := rfl
  halted := rfl
  reason := rfl
  params := rfl

theorem setX_frame : Frame s (s.setX v) [.x] [] [] where
  registers
    | .x, h => absurd (List.mem_singleton_self _) h
    | .a, _ | .y, _ | .sp, _ => rfl
  flags _ _ := rfl
  unused := rfl
  memory _ _ := rfl
  halted := rfl
  reason := rfl
  params := rfl

theorem setY_frame : Frame s (s.setY v) [.y] [] [] where
  registers
    | .y, h => absurd (List.mem_singleton_self _) h
    | .a, _ | .x, _ | .sp, _ => rfl
  flags _ _ := rfl
  unused := rfl
  memory _ _ := rfl
  halted := rfl
  reason := rfl
  params := rfl

theorem setSp_frame : Frame s (s.setSp v) [.sp] [] [] where
  registers
    | .sp, h => absurd (List.mem_singleton_self _) h
    | .a, _ | .x, _ | .y, _ => rfl
  flags _ _ := rfl
  unused := rfl
  memory _ _ := rfl
  halted := rfl
  reason := rfl
  params := rfl

theorem setPc_frame (w : Addr) : Frame s (s.setPc w) [] [] [] := setPc_addCycles_frame s w 0

theorem addCycles_frame (k : Nat) : Frame s (s.addCycles k) [] [] [] := setPc_addCycles_frame s s.pc k

theorem write_frame (a : Addr) : Frame s (s.write a v) [] [] [a] where
  registers q _ := by cases q <;> rfl
  flags _ _ := rfl
  unused := rfl
  memory b hb := by rw [State.write_read, if_neg (List.ne_of_not_mem_cons hb)]
  halted := rfl
  reason := rfl
  params := rfl

/-- A write of P may change every flag, but not bit 5 as it reads. -/
theorem writeP_frame : Frame s (s.writeP v) [] [.n, .v, .d, .i, .z, .c, .b] [] where
  registers q _ := by cases q <;> rfl
  flags f hf := by cases f <;> exact absurd (by decide) hf
  unused := (State.readP_unused _).trans (State.readP_unused s).symm
  memory _ _ := rfl
  halted := rfl
  reason := rfl
  params := rfl

theorem setFlag_frame (f : Flag) (on : Bool) : Frame s (s.setFlag f on) [] [f] [] where
  registers q _ := by cases q <;> rfl
  flags g hg := by rw [State.setFlag_flag, if_neg (List.ne_of_not_mem_cons hg)]
  unused := (State.readP_unused _).trans (State.readP_unused s).symm
  memory _ _ := rfl
  halted := rfl
  reason := rfl
  params := rfl

/-! ## Effects on registers and flags -/

theorem loadA_frame : Frame s (loadA v s) [.a] [.z, .n] [] := frame_seq (setA_frame s v) (setZN_frame _ v)

theorem loadX_frame : Frame s (loadX v s) [.x] [.z, .n] [] := frame_seq (setX_frame s v) (setZN_frame _ v)

theorem loadY_frame : Frame s (loadY v s) [.y] [.z, .n] [] := frame_seq (setY_frame s v) (setZN_frame _ v)

theorem addToA_frame : Frame s (addToA v s) [.a] [.c, .v, .z, .n] [] :=
  frame_seq (frame_seq (frame_seq (setA_frame s _) (setFlag_frame _ .c _)) (setFlag_frame _ .v _)) (setZN_frame _ _)

theorem bitTest_frame : Frame s (bitTest v s) [] [.z, .n, .v] [] :=
  frame_seq (frame_seq (setFlag_frame s .z _) (setFlag_frame _ .n _)) (setFlag_frame _ .v _)

/-! ## Effects on memory and the stack -/

/-- The end of every read-modify-write of a cell (R66, R220). -/
theorem write_setZN_frame (a : Addr) : Frame s ((s.write a v).setZN v) [] [.z, .n] [a] :=
  frame_seq (write_frame s v a) (setZN_frame _ v)

theorem push_frame : Frame s (s.push v) [.sp] [] [stackAddr s.sp] :=
  frame_seq (write_frame s v (stackAddr s.sp)) (setSp_frame _ _)

theorem push16_frame (w : Addr) : Frame s (s.push16 w) [.sp] [] [stackAddr s.sp, stackAddr (s.sp - 1)] :=
  frame_mono (frame_seq (push_frame s (highByte w)) (push_frame _ (lowByte w))) (by decide) (fun _ h => h) (fun _ h => h)

theorem pulled_frame : Frame s s.pulled [.sp] [] [] := setSp_frame s (s.sp + 1)

theorem pulled_pulled_frame : Frame s s.pulled.pulled [.sp] [] [] :=
  frame_mono (frame_seq (pulled_frame s) (pulled_frame _)) (by decide) (fun _ h => h) (fun _ h => h)

theorem pullA_frame : Frame s (pullA s) [.a, .sp] [.z, .n] [] :=
  frame_mono (frame_seq (pulled_frame s) (loadA_frame _ s.pull)) (by decide) (fun _ h => h) (fun _ h => h)

theorem pullP_frame : Frame s s.pullP [.sp] [.n, .v, .d, .i, .z, .c, .b] [] :=
  frame_seq (pulled_frame s) (writeP_frame _ _)

theorem jumpToSubroutine_frame (w : Addr) :
    Frame s (jumpToSubroutine w s) [.sp] [] [stackAddr s.sp, stackAddr (s.sp - 1)] :=
  frame_seq (push16_frame s (s.pc - 1)) (setPc_frame _ w)

theorem returnFromSubroutine_frame : Frame s (returnFromSubroutine s) [.sp] [] [] :=
  frame_seq (pulled_pulled_frame s) (setPc_frame _ _)

theorem returnFromInterrupt_frame :
    Frame s s.returnFromInterrupt [.sp] [.n, .v, .d, .i, .z, .c, .b] [] :=
  frame_mono (frame_seq (pullP_frame s) (frame_seq (pulled_pulled_frame _) (setPc_frame _ _))) (by decide)
    (by decide) (fun _ h => h)

end

end Sys2Proof.Proofs.Frames
end

section
/-! What the effects keep, instruction by instruction (R34, R38, R143, R151 and section 6 of spec/20_memory.md), by cases on the
mnemonic: `exec_effect` makes each a statement about every instruction. -/

namespace Sys2Proof.Proofs.EffectFrames

open Sys2Proof.Machine Sys2Proof.Claims Sys2Proof.Proofs.Scope Sys2Proof.Proofs.ArithLogic Sys2Proof.Proofs.ControlTransfer
  Sys2Proof.Proofs.Frames

/-! ## The frame of every effect -/

/-- The registers that an effect may write: those of R34, and A in the accumulator form of a read-modify-write. -/
def writtenRegs (acc : Bool) (m : Mnemonic) : List Reg :=
  [Reg.a, .x, .y, .sp].filter fun r => decide (m ∈ registerWriters r) || (acc && r == .a)

/-- The flags that an effect may write (R38). -/
def writtenFlags (m : Mnemonic) : List Flag :=
  [Flag.n, .v, .b, .d, .i, .z, .c].filter fun f => m ∈ flagWriters f

theorem mem_writtenRegs {acc : Bool} {m : Mnemonic} {r : Reg} :
    r ∈ writtenRegs acc m ↔ m ∈ registerWriters r ∨ (acc = true ∧ r = .a) := by
  cases r <;> simp [writtenRegs]

theorem mem_writtenFlags {m : Mnemonic} {f : Flag} : f ∈ writtenFlags m ↔ m ∈ flagWriters f := by
  cases f <;> simp [writtenFlags]

theorem frame_writers {acc : Bool} {m : Mnemonic} {s t : State} {regs : List Reg} {flags : List Flag}
    {stored cells : List Addr} (h : Frame s t regs flags stored) (hregs : ∀ r ∈ regs, m ∈ registerWriters r)
    (hflags : ∀ f ∈ flags, m ∈ flagWriters f) (hcells : ∀ a ∈ stored, a ∈ cells) :
    Frame s t (writtenRegs acc m) (writtenFlags m) cells :=
  frame_mono h (fun r hr => mem_writtenRegs.mpr (.inl (hregs r hr))) (fun f hf => mem_writtenFlags.mpr (hflags f hf)) hcells

/-- The cells that an effect may write. -/
def writtenCells (ea : Addr) (s : State) : Mnemonic → List Addr
  | .jsr => [stackAddr s.sp, stackAddr (s.sp - 1)]
  | .pha | .php => [stackAddr s.sp]
  | .sta | .stx | .sty | .inc | .dec | .asl | .lsr | .rol | .ror => [ea]
  | _ => []

section
variable (acc : Bool) (ea : Addr) (v : Byte) (s : State)

/-- The read-modify-writes that read and set C (R221 to R224). -/
theorem modifyEffect_shifted_frame (fn : Byte → Bool → Byte × Bool) {regs : List Reg} (hregs : acc = true → .a ∈ regs) :
    Frame s (modifyEffect acc ea (shifted fn) s) regs [.n, .z, .c] [ea] := by
  cases acc
  · exact frame_mono (frame_seq (setFlag_frame s .c _) (write_setZN_frame _ _ ea)) nofun (by decide) fun _ h => h
  · exact frame_mono (frame_seq (setFlag_frame s .c _) (loadA_frame _ _)) (by simpa using hregs) (by decide) nofun

/-- INC and DEC set Z and N alone (R193, R194). -/
theorem modifyEffect_step_frame (fn : Byte → Byte) {regs : List Reg} (hregs : acc = true → .a ∈ regs) :
    Frame s (modifyEffect acc ea (fun w u => (fn w, u)) s) regs [.n, .z] [ea] := by
  cases acc
  · exact frame_mono (write_setZN_frame s _ ea) nofun (by decide) fun _ h => h
  · exact frame_mono (loadA_frame s _) (by simpa using hregs) (by decide) nofun

theorem effectOf_frame {m : Mnemonic} (hm : m ≠ .brk) :
    Frame s (effectOf acc ea v s m) (writtenRegs acc m) (writtenFlags m) (writtenCells ea s m) := by
  have hacc : acc = true → .a ∈ writtenRegs acc m := fun h => mem_writtenRegs.mpr (.inr ⟨h, rfl⟩)
  cases m
  case brk => contradiction
  case lda | txa | tya | and | ora | eor => exact frame_writers (loadA_frame s _) (by decide) (by decide) nofun
  case ldx | tax | tsx | inx | dex => exact frame_writers (loadX_frame s _) (by decide) (by decide) nofun
  case ldy | tay | iny | dey => exact frame_writers (loadY_frame s _) (by decide) (by decide) nofun
  case adc => exact frame_writers (addToA_frame s v) (by decide) (by decide) nofun
  case sbc => exact frame_writers (addToA_frame s (~~~v)) (by decide) (by decide) nofun
  case cmp | cpx | cpy => exact frame_writers (compare_frame s _ _) nofun (by decide) nofun
  case bit => exact frame_writers (bitTest_frame s v) nofun (by decide) nofun
  case sta | stx | sty => exact frame_writers (write_frame s _ ea) nofun nofun fun _ h => h
  case txs => exact frame_writers (setSp_frame s s.x) (by decide) nofun nofun
  case inc => exact modifyEffect_step_frame acc ea s (· + 1) hacc
  case dec => exact modifyEffect_step_frame acc ea s (· - 1) hacc
  case asl => exact modifyEffect_shifted_frame acc ea s aslStep hacc
  case lsr => exact modifyEffect_shifted_frame acc ea s lsrStep hacc
  case rol => exact modifyEffect_shifted_frame acc ea s rolStep hacc
  case ror => exact modifyEffect_shifted_frame acc ea s rorStep hacc
  case bpl | bmi | bvc | bvs | bcc | bcs | bne | beq => exact frame_writers (branchIf_frame _ v s) nofun nofun nofun
  case jmp => exact frame_writers (setPc_frame s ea) nofun nofun nofun
  case jsr => exact frame_writers (jumpToSubroutine_frame s ea) (by decide) nofun fun _ h => h
  case rts => exact frame_writers (returnFromSubroutine_frame s) (by decide) nofun nofun
  case pha | php => exact frame_writers (push_frame s _) (by decide) nofun fun _ h => h
  case pla => exact frame_writers (pullA_frame s) (by decide) (by decide) nofun
  case plp => exact frame_writers (pullP_frame s) (by decide) (by decide) nofun
  case rti => exact frame_writers (returnFromInterrupt_frame s) (by decide) (by decide) nofun
  case clc | sec | cli | sei | clv | cld | sed => exact frame_writers (setFlag_frame s _ _) nofun (by decide) nofun
  case nop => exact frame_writers (frame_refl s) nofun nofun nofun

end

/-! ## Registers, flags and parameters: BRK halts, so it has no frame, but writes no other register or flag than its own -/

section
variable (acc : Bool) (ea : Addr) (v : Byte) (s : State)

theorem effectOf_reg {m : Mnemonic} {r : Reg} (hm : m ∉ registerWriters r) (hacc : acc = true → r ≠ .a) :
    reg (effectOf acc ea v s m) r = reg s r := by
  by_cases hbrk : m = .brk
  · subst hbrk
    cases r
    case a => exact State.enterBreak_a _
    case x => exact State.enterBreak_x _
    case y => exact State.enterBreak_y _
    case sp => exact absurd (by decide) hm
  · refine (effectOf_frame acc ea v s hbrk).registers r fun h => ?_
    exact (mem_writtenRegs.mp h).elim hm fun ⟨ha, hr⟩ => hacc ha hr

theorem effectOf_flag {m : Mnemonic} {f : Flag} (hm : m ∉ flagWriters f) :
    (effectOf acc ea v s m).flag f = s.flag f := by
  by_cases hbrk : m = .brk
  · subst hbrk
    have hi : f ≠ .i := by
      rintro rfl
      exact hm (by decide)
    exact (State.enterBreak_flag _ f).trans (if_neg hi)
  · exact (effectOf_frame acc ea v s hbrk).flags f (mt mem_writtenFlags.mp hm)

theorem effectOf_params (m : Mnemonic) : (effectOf acc ea v s m).params = s.params := by
  by_cases hbrk : m = .brk
  · subst hbrk
    exact State.enterBreak_params _
  · exact (effectOf_frame acc ea v s hbrk).params

end

/-- Settles O36: the effect's own registers (`effectOf_reg`), and the account after it writes none. -/
theorem registersChangeOnlyInTheirWriters : Obligations.RegistersChangeOnlyInTheirWriters := by
  intro i s
  refine ⟨_, exec_effect i s, fun r hr hm => ?_, fun hm hacc => ?_⟩
  · rw [(account_frame (frame_refl _) _ _).registers r List.not_mem_nil]
    exact effectOf_reg _ _ _ s hm fun _ => hr
  · rw [decide_eq_false hacc, State.account_a]
    exact effectOf_reg (r := .a) false _ _ s hm nofun

/-- Settles O37: the effect's own flags (`effectOf_flag`), and the account after it writes none. -/
theorem flagsChangeOnlyInTheirWriters : Obligations.FlagsChangeOnlyInTheirWriters := fun i s =>
  ⟨_, exec_effect i s, fun _ hm => effectOf_flag _ _ _ s hm⟩

/-! ## Memory, PC and the counter -/

/-- The mnemonics of R241 to R248. -/
def branches : List Mnemonic := [.bpl, .bmi, .bvc, .bvs, .bcc, .bcs, .bne, .beq]

section
variable (acc : Bool) (ea : Addr) (v : Byte) (s : State)

theorem branchIf_mem (cond : Bool) : (branchIf cond v s).mem = s.mem := by
  cases cond <;> rfl

/-- The memory is the same data, not only read the same. -/
theorem effectOf_mem {m : Mnemonic} (hm : m ∉ memoryWriters) : (effectOf acc ea v s m).mem = s.mem := by
  cases m
  case sta | stx | sty | inc | dec | asl | lsr | rol | ror | pha | php | jsr | brk => exact absurd (by decide) hm
  case bpl | bmi | bvc | bvs | bcc | bcs | bne | beq => exact branchIf_mem v s _
  case rti => exact s.returnFromInterrupt_mem
  all_goals rfl

/-- The accumulator forms write A in place of the cell (R220). -/
theorem effectOf_acc_mem {m : Mnemonic} (hm : m ∈ [Mnemonic.asl, .lsr, .rol, .ror]) :
    (effectOf true ea v s m).mem = s.mem := by
  cases m
  case asl | lsr | rol | ror => rfl
  all_goals exact absurd hm (by decide)

theorem mnemonic_of_mode_acc {i : Instr} (h : (descriptorOf i).mode = .acc) :
    (descriptorOf i).mnemonic ∈ [Mnemonic.asl, .lsr, .rol, .ror] := by
  cases i
  case aslAcc | lsrAcc | rolAcc | rorAcc => decide
  all_goals contradiction

/-- Settles O38: the effect's memory outside its writers, and in the accumulator forms. -/
theorem memoryChangesOnlyInStoresModifiesAndPushes : Obligations.MemoryChangesOnlyInStoresModifiesAndPushes := by
  intro i s
  refine ⟨_, exec_effect i s, effectOf_params _ _ _ s _, ?_⟩
  rintro (hm | hacc)
  · exact effectOf_mem _ _ _ s hm
  · rw [decide_eq_true hacc]
    exact effectOf_acc_mem _ _ s (mnemonic_of_mode_acc hacc)

theorem effectOf_pc {m : Mnemonic} (hm : m ∉ transfers) : (effectOf acc ea v s m).pc = s.pc := by
  cases m
  case bpl | bmi | bvc | bvs | bcc | bcs | bne | beq | jmp | jsr | rts | rti | brk => exact absurd (by decide) hm
  case inc | dec | asl | lsr | rol | ror => cases acc <;> rfl
  all_goals rfl

/-- Only a branch counts cycles in its effect. -/
theorem effectOf_cycles {m : Mnemonic} (hm : m ∉ branches) : (effectOf acc ea v s m).cycles = s.cycles := by
  cases m
  case bpl | bmi | bvc | bvs | bcc | bcs | bne | beq => exact absurd (by decide) hm
  case inc | dec | asl | lsr | rol | ror => cases acc <;> rfl
  case jsr => rw [effectOf, jumpToSubroutine, State.setPc_cycles, State.push16_cycles]
  case brk => exact State.enterBreak_cycles _
  case rti => exact s.returnFromInterrupt_cycles
  all_goals rfl

/-- R240: a branch that is taken counts 1, and 1 more to another page. -/
theorem branchIf_cycles (cond : Bool) : ∃ extra ≤ 2, (branchIf cond v s).cycles = s.cycles + extra := by
  obtain ⟨-, hkept⟩ | ⟨-, htaken⟩ := branchIf_cases cond v s
  · exact ⟨0, Nat.zero_le 2, congrArg State.cycles hkept⟩
  · exact ⟨_, Nat.add_le_add_left (Bool.toNat_le _) 1, congrArg State.cycles htaken⟩

theorem effectOf_branch_cycles {m : Mnemonic} (hm : m ∈ branches) :
    ∃ extra ≤ 2, (effectOf acc ea v s m).cycles = s.cycles + extra := by
  cases m
  case bpl | bmi | bvc | bvs | bcc | bcs | bne | beq => exact branchIf_cycles v s _
  all_goals exact absurd hm (by decide)

end

/-! ## Cycles of an instruction (R145, R146) -/

theorem branchExtra_eq (i : Instr) : (descriptorOf i).branchExtra = decide ((descriptorOf i).mnemonic ∈ branches) := by
  cases i <;> rfl

theorem pageCrossExtra_of_branchExtra {i : Instr} (h : (descriptorOf i).branchExtra = true) :
    (descriptorOf i).pageCrossExtra = false := by
  cases i
  case bpl | bmi | bvc | bvs | bcc | bcs | bne | beq => rfl
  all_goals contradiction

theorem two_le_baseCycles (i : Instr) : 2 ≤ (descriptorOf i).baseCycles := by
  cases i <;> exact Nat.le_add_left ..

/-- The crossing that the instruction resolves with is the one its mode and operand bytes report. -/
theorem formOf_crossed (i : Instr) (s : State) : (formOf s i).1.crossed = formCrossed i s := by
  cases i <;> simp only [formOf, formCrossed, descriptorOf, operandBytesOf, hiLo_bytes] <;> rfl

/-- Settles O41: the effect counts for a branch alone, the account adds the base cost and the reported crossing. -/
theorem cyclesFollowTheDescriptor : Obligations.CyclesFollowTheDescriptor := by
  intro i s d
  have hbranch := branchExtra_eq i
  by_cases hm : d.mnemonic ∈ branches
  · obtain ⟨extra, hle, hcycles⟩ := effectOf_branch_cycles (decide (d.mode = .acc)) (formOf s i).1.ea (formOf s i).2 s hm
    have hb : d.branchExtra = true := hbranch.trans (decide_eq_true hm)
    have hp : d.pageCrossExtra = false := pageCrossExtra_of_branchExtra hb
    refine ⟨_, extra, exec_effect i s, ?_, two_le_baseCycles i, by simp [hb], by simp [hp], fun _ => hle⟩
    rw [State.account_cycles, hcycles, hp, Bool.false_and]
    exact Nat.add_right_comm ..
  · have hb : d.branchExtra = false := hbranch.trans (decide_eq_false hm)
    refine ⟨_, (d.pageCrossExtra && formCrossed i s).toNat, exec_effect i s, ?_, two_le_baseCycles i, ?_, ?_, by simp [hb]⟩
    · rw [State.account_cycles, effectOf_cycles _ _ _ s hm, formOf_crossed, Nat.add_assoc]
    · intro hp _
      rw [hp]
      rfl
    · intro hp
      rw [hp]
      rfl

/-! ## The counter influences nothing (R152) -/

section
variable (s : State) (k : Nat)

theorem addCycles_comm (j : Nat) : (s.addCycles k).addCycles j = (s.addCycles j).addCycles k :=
  congrArg (fun c => { s with cycles := c }) (Nat.add_right_comm s.cycles k j)

theorem branchIf_addCycles (cond : Bool) (r : Byte) : branchIf cond r (s.addCycles k) = (branchIf cond r s).addCycles k := by
  cases cond
  · rfl
  · exact addCycles_comm (s.setPc _) k _

/-- A read-modify-write commutes with a shift of the counter when the function it applies does. -/
theorem modifyEffect_addCycles (acc : Bool) (ea : Addr) {fn : Byte → State → Byte × State}
    (hv : ∀ w, (fn w (s.addCycles k)).1 = (fn w s).1) (hs : ∀ w, (fn w (s.addCycles k)).2 = (fn w s).2.addCycles k) :
    modifyEffect acc ea fn (s.addCycles k) = (modifyEffect acc ea fn s).addCycles k := by
  cases acc <;> simp only [modifyEffect, State.addCycles_a, State.addCycles_read, hv, hs] <;> rfl

theorem softwareBreak_addCycles : softwareBreak (s.addCycles k) = (softwareBreak s).addCycles k := by
  have hpush : (s.addCycles k).skipByte.push16 (s.addCycles k).skipByte.pc =
      (s.skipByte.push16 s.skipByte.pc).addCycles k := rfl
  rw [softwareBreak, State.enterBreak, hpush]
  rfl

/-- Every effect commutes with a shift of the counter. -/
theorem effectOf_addCycles (acc : Bool) (ea : Addr) (v : Byte) (m : Mnemonic) :
    effectOf acc ea v (s.addCycles k) m = (effectOf acc ea v s m).addCycles k := by
  cases m
  case bpl | bmi | bvc | bvs | bcc | bcs | bne | beq => exact branchIf_addCycles s k _ v
  case inc | dec | asl | lsr | rol | ror => exact modifyEffect_addCycles s k acc ea (fun _ => rfl) fun _ => rfl
  case brk => exact softwareBreak_addCycles s k
  all_goals rfl

end

/-- Settles O40: the operands, the effect and the account each commute with the shift. -/
theorem noInstructionReadsTheCycleCounter : Obligations.NoInstructionReadsTheCycleCounter := by
  intro i s k
  refine ⟨_, exec_effect i s, ?_⟩
  have hform : formOf (s.addCycles k) i = formOf s i := formOf_congr i s _ rfl rfl rfl
  change exec i (s.addCycles k) = _
  rw [exec_effect, hform, effectOf_addCycles]
  exact congrArg Host.Outcome.next (addCycles_comm _ k _)

end Sys2Proof.Proofs.EffectFrames
end

section
/-! The step around an effect (spec/41_engine.md): what runs is what the bytes at PC decode to (R141), what does not decode is an
unknown opcode (R143), and the invariant and the safety of runs that follow. -/

namespace Sys2Proof.Proofs.StepAndRun

open Sys2Proof.Machine Sys2Proof.Claims Sys2Proof.Proofs.Encoding Sys2Proof.Proofs.StatusRegister Sys2Proof.Proofs.Exceptions
  Sys2Proof.Proofs.EffectFrames Sys2Proof.Proofs.Frames Sys2Proof.Proofs.Engine

/-! ## The instruction at PC -/

/-- R96: the bytes of the fetch are those of the descriptor's length. -/
theorem fetchedBytes_eq_length (i : Instr) : fetchedBytes i = (descriptorOf i).length := by
  cases i <;> rfl

/-- R141: the opcode's byte, then the operand bytes of the mode. -/
theorem add_fetchedBytes (pc : Addr) (i : Instr) :
    pc + BitVec.ofNat 16 (fetchedBytes i) = pc + 1 + BitVec.ofNat 16 (modeOperandBytes (descriptorOf i).mode) := by
  rw [fetchedBytes, BitVec.ofNat_add, ← BitVec.add_assoc]
  rfl

/-- Settles O42: a step of a decoded instruction is `step_ok`, and the fetch moves PC past the opcode and the operands. -/
theorem stepRunsTheDecodedInstruction : Obligations.StepRunsTheDecodedInstruction := by
  intro s i rest hs hdec
  rw [step_ok s i hs ((s.instrAt_ok s.pc i).mpr ⟨rest, hdec⟩), State.pastOperands, add_fetchedBytes]
  rfl

/-- The encoding at PC, with what is left of the three bytes the decoder sees. -/
theorem bytesAt_eq_encode_append {s : State} {i : Instr}
    (h : ∀ k v, (encode i)[k]? = some v → s.read (s.pc + BitVec.ofNat 16 k) = v) :
    s.bytesAt s.pc = encode i ++ (s.bytesAt s.pc).drop (encode i).length := by
  have hlen : (encode i).length ≤ 3 := by
    rw [encode_length, fetchedBytes]
    cases (descriptorOf i).mode <;> decide
  have hread (k : Nat) (hk : k < 3) : (s.bytesAt s.pc)[k]? = some (s.read (s.pc + BitVec.ofNat 16 k)) := by
    interval_cases k
    · simp [State.bytesAt]
    · rfl
    · rfl
  have hprefix : encode i <+: s.bytesAt s.pc := List.prefix_iff_getElem?.mpr fun k hk => by
    rw [hread k (by omega), h k _ (List.getElem?_eq_getElem hk)]
  exact (List.prefix_iff_eq_append.mp hprefix).symm

/-- Settles O43: the bytes at PC decode to the instruction they encode. -/
theorem stepRunsTheEncodedInstruction : Obligations.StepRunsTheEncodedInstruction := by
  intro s i hs hwf hbytes
  have hdec := decodeOfEncodeIsTheInstruction _ i ((s.bytesAt s.pc).drop (encode i).length) hwf
  rw [← bytesAt_eq_encode_append hbytes] at hdec
  rw [step_ok s i hs ((s.instrAt_ok s.pc i).mpr ⟨_, hdec⟩), encode_length]
  rfl

/-- Settles O48: an effect that is no transfer leaves PC where the fetch put it; BRK's skips the padding byte. -/
theorem nonTransferStepMovesPcByItsLength : Obligations.NonTransferStepMovesPcByItsLength := by
  intro s i rest hs hdec
  have hstep := step_ok s i hs ((s.instrAt_ok s.pc i).mpr ⟨rest, hdec⟩)
  have hfetch : (s.pc + BitVec.ofNat 16 (fetchedBytes i)).toNat = (s.pc.toNat + (descriptorOf i).length) % 65536 := by
    rw [fetchedBytes_eq_length]
    simp
  refine ⟨_, hstep.trans (exec_effect i _), fun hm => ?_, fun hi => ?_⟩
  · rw [State.account_pc, effectOf_pc _ _ _ _ hm, State.pastOperands_pc, hfetch]
  · subst hi
    have hskip : (s.pc + BitVec.ofNat 16 (fetchedBytes .brk) + 1).toNat = (s.pc.toNat + 2) % 65536 := by
      rw [BitVec.toNat_add, hfetch]
      exact Nat.mod_add_mod _ _ 1
    rw [State.account_pc]
    exact (congrArg BitVec.toNat (State.enterBreak_pc _)).trans hskip

/-! ## The unknown opcodes at PC -/

/-- Three bytes are enough for every instruction, so an empty slot is the only reason not to decode. -/
theorem exists_decode_error_iff (nops : List Byte) (op b1 b2 : Byte) :
    (∃ why, decode nops [op, b1, b2] = .error why) ↔ tableSlot nops op = none := by
  rw [decode]
  cases tableSlot nops op with
  | none => exact iff_of_true ⟨_, rfl⟩ rfl
  | some slot => cases slot <;> exact iff_of_false nofun nofun

theorem exists_instrAt_error_iff (s : State) : (∃ why, s.instrAt s.pc = .error why) ↔ UnknownAt s := by
  simp only [State.instrAt_error, exists_decode_error_iff, tableSlot_eq_none_iff, UnknownAt]

/-- Settles O45: such an opcode does not decode, and the step is then `State.haltUnknown`. -/
theorem unassignedOpcodesHaltTheCore : Obligations.UnassignedOpcodesHaltTheCore := by
  intro s hs hunknown
  obtain ⟨why, hwhy⟩ := (exists_instrAt_error_iff s).mpr hunknown
  exact step_error s why hs hwhy

/-! ## The invariant -/

section
variable {s : State}

theorem modifyEffect_wf {acc : Bool} {ea : Addr} {fn : Byte → State → Byte × State} (h : ∀ w, (fn w s).2.mem.wf = true) :
    (modifyEffect acc ea fn s).mem.wf = true := by
  cases acc
  · exact Memory.wf_write _ _ _ (h _)
  · exact h _

theorem effectOf_wf (h : s.mem.wf = true) (acc : Bool) (ea : Addr) (v : Byte) (m : Mnemonic) :
    (effectOf acc ea v s m).mem.wf = true := by
  by_cases hm : m ∈ memoryWriters
  · cases m
    case sta | stx | sty | pha | php => exact s.mem.wf_write _ _ h
    case inc | dec | asl | lsr | rol | ror => exact modifyEffect_wf fun _ => h
    case jsr => exact Memory.wf_write _ _ _ (s.mem.wf_write _ _ h)
    case brk => exact State.enterBreak_wf _ h
    all_goals exact absurd hm (by decide)
  · rw [effectOf_mem _ _ _ s hm]
    exact h

/-- An effect keeps the latch, but BRK's, which sets it with its reason. -/
theorem effectOf_latch (acc : Bool) (ea : Addr) (v : Byte) (m : Mnemonic) :
    ((effectOf acc ea v s m).halted = s.halted ∧ (effectOf acc ea v s m).haltReason = s.haltReason) ∨
      ((effectOf acc ea v s m).halted = true ∧ (effectOf acc ea v s m).haltReason = .brk) := by
  by_cases hm : m = .brk
  · subst hm
    exact .inr ⟨State.enterBreak_halted _, State.enterBreak_haltReason _⟩
  · have hframe := effectOf_frame acc ea v s hm
    exact .inl ⟨hframe.halted, hframe.reason⟩

end

theorem effectOf_inv {s : State} (h : s.Inv) (acc : Bool) (ea : Addr) (v : Byte) (m : Mnemonic) :
    (effectOf acc ea v s m).Inv where
  unused := effectOf_unused h.unused acc ea v m
  running := by
    obtain ⟨hhalted, hreason⟩ | ⟨hhalted, hreason⟩ := effectOf_latch (s := s) acc ea v m
    · rw [hhalted, hreason]
      exact h.running
    · rw [hhalted, hreason]
      exact iff_of_false nofun nofun
  noExecutionFault := by
    obtain ⟨-, hreason⟩ | ⟨-, hreason⟩ := effectOf_latch (s := s) acc ea v m
    · rw [hreason]
      exact h.noExecutionFault
    · rw [hreason]
      nofun
  memory := effectOf_wf h.memory acc ea v m
  parameters := (congrArg (paramsWf · = true) (effectOf_params acc ea v s m)).mpr h.parameters

/-- The invariant does not speak of the counter. -/
theorem account_inv {s : State} (h : s.Inv) (d : Descriptor) (crossed : Bool) : (s.account d crossed).Inv :=
  ⟨h.unused, h.running, h.noExecutionFault, h.memory, h.parameters⟩

/-- The invariant does not speak of PC. -/
theorem pastOperands_inv {s : State} (h : s.Inv) (i : Instr) : (s.pastOperands i).Inv :=
  ⟨h.unused, h.running, h.noExecutionFault, h.memory, h.parameters⟩

theorem haltUnknown_inv {s : State} (h : s.Inv) : s.haltUnknown.Inv :=
  ⟨h.unused, iff_of_false nofun nofun, nofun, h.memory, h.parameters⟩

theorem applyReset_inv {s : State} (h : s.Inv) (inp : ResetInput) : (s.applyReset inp).Inv :=
  ⟨applyReset_unused s inp, iff_of_true rfl rfl, nofun, h.memory, h.parameters⟩

theorem exec_inv {s : State} (h : s.Inv) (i : Instr) : ∃ t, exec i s = .next t ∧ t.Inv :=
  ⟨_, exec_effect i s, account_inv (effectOf_inv h _ _ _ _) _ _⟩

theorem step_inv {s : State} (h : s.Inv) : ∃ t, step s = .next t ∧ t.Inv := by
  cases hs : s.halted with
  | true => exact ⟨s, step_halted s hs, h⟩
  | false =>
    obtain ⟨i, -, hstep⟩ | ⟨why, -, hstep⟩ := step_running s hs
    · rw [hstep]
      exact exec_inv (pastOperands_inv h i) i
    · exact ⟨_, hstep, haltUnknown_inv h⟩

/-- Settles O49: the step keeps the invariant (`step_inv`) and answers one state; reset sets P, the latch and its reason. -/
theorem invariantIsKeptByEveryStepAndReset : Obligations.InvariantIsKeptByEveryStepAndReset := by
  intro s h
  obtain ⟨t, hstep, ht⟩ := step_inv h
  refine ⟨⟨t, hstep, ht⟩, fun u hu => ?_, applyReset_inv h⟩
  obtain rfl : t = u := Host.Outcome.next.inj (hstep.symm.trans hu)
  exact ht

/-! ## Safety of runs (R300, R303) -/

/-- A running core that does not stand at an unknown opcode keeps running, or halts at a BRK. -/
theorem step_runs_or_breaks {s : State} (hs : s.halted = false) (hknown : ¬UnknownAt s) :
    ∃ t, step s = .next t ∧ (t.halted = false ∨ (t.halted = true ∧ t.haltReason = .brk)) := by
  obtain ⟨i, -, hstep⟩ | ⟨why, hwhy, -⟩ := step_running s hs
  · refine ⟨_, hstep.trans (exec_effect i _), ?_⟩
    exact (effectOf_latch (s := s.pastOperands i) _ _ _ _).imp (fun h => h.1.trans hs) id
  · exact absurd ((exists_instrAt_error_iff s).mp ⟨why, hwhy⟩) hknown

/-- Settles O52, by induction on the number of steps: the first step stands at an unknown opcode, or halts at a BRK, where every
run stays, or runs on in a state that meets the invariant again. -/
theorem runIsSafeUnlessItMeetsAnUnknownOpcode : Obligations.RunIsSafeUnlessItMeetsAnUnknownOpcode := by
  intro s k h hs
  induction k generalizing s with
  | zero => exact .inl ⟨s, rfl, .inl (h.running.mpr hs)⟩
  | succ k ih =>
    by_cases hunknown : UnknownAt s
    · exact .inr ⟨0, Nat.succ_pos k, s, rfl, hs, hunknown⟩
    obtain ⟨-, hkeeps, -⟩ := invariantIsKeptByEveryStepAndReset s h
    obtain ⟨t, hstep, hruns | ⟨hhalted, hbreak⟩⟩ := step_runs_or_breaks hs hunknown
    · have hrun (j : Nat) : Sys2Proof.core.run (j + 1) s = Sys2Proof.core.run j t := run_succ_of_next Sys2Proof.core s t j hstep
      obtain ⟨u, hu, hsafe⟩ | ⟨j, hj, u, hu, hmeets⟩ := ih t (hkeeps t hstep) hruns
      · exact .inl ⟨u, (hrun k).trans hu, hsafe⟩
      · exact .inr ⟨j + 1, Nat.succ_lt_succ hj, u, (hrun j).trans hu, hmeets⟩
    · obtain ⟨hstays, -⟩ := haltedCoreStaysAsItIs t hhalted
      exact .inl ⟨t, (run_succ_of_next Sys2Proof.core s t k hstep).trans (hstays k), .inr hbreak⟩

end Sys2Proof.Proofs.StepAndRun
end

section
/-! The four shift steps (spec/44_shift_rotate.md) as arithmetic: the result modulo 256 and the bit shifted out. -/

namespace Sys2Proof.Proofs.ShiftSteps

open Sys2Proof.Machine Sys2Proof.Proofs.Scope

theorem msb_eq_decide (v : Byte) : v.getLsbD 7 = decide (128 ≤ v.toNat) := bit7_eq_nOf v

theorem lsb_eq_decide (v : Byte) : v.getLsbD 0 = decide (v.toNat % 2 = 1) := by
  simp [BitVec.getLsbD, Nat.testBit_zero]

theorem shiftLeft_one_eq (v : Byte) : v <<< 1 = BitVec.ofNat 8 (2 * v.toNat) := by
  apply BitVec.eq_of_toNat_eq
  simp [Nat.shiftLeft_eq, Nat.mul_comm]

theorem shiftRight_one_eq (v : Byte) : v >>> 1 = BitVec.ofNat 8 (v.toNat / 2) := by
  have := v.isLt
  apply BitVec.eq_of_toNat_eq
  simp only [BitVec.toNat_ushiftRight, BitVec.toNat_ofNat, Nat.shiftRight_eq_div_pow]
  omega

theorem aslStep_eq (v : Byte) (cin : Bool) :
    aslStep v cin = (BitVec.ofNat 8 (2 * v.toNat), decide (128 ≤ v.toNat)) := by
  rw [aslStep, msb_eq_decide, shiftLeft_one_eq]

theorem lsrStep_eq (v : Byte) (cin : Bool) :
    lsrStep v cin = (BitVec.ofNat 8 (v.toNat / 2), decide (v.toNat % 2 = 1)) := by
  rw [lsrStep, lsb_eq_decide, shiftRight_one_eq]

/-- The bit that a rotate frees is the only one that the carry enters. -/
theorem shiftLeft_or_carry (v : Byte) (cin : Bool) :
    v <<< 1 ||| (if cin then 0x01 else 0x00 : Byte) = v <<< 1 + BitVec.ofNat 8 (if cin then 1 else 0) := by
  have hfree : v <<< 1 &&& 0x01 = 0 := by decide +revert
  cases cin
  · simp
  · exact (BitVec.add_eq_or_of_and_eq_zero _ _ hfree).symm

theorem shiftRight_or_carry (v : Byte) (cin : Bool) :
    v >>> 1 ||| (if cin then 0x80 else 0x00 : Byte) = v >>> 1 + BitVec.ofNat 8 (128 * if cin then 1 else 0) := by
  have hfree : v >>> 1 &&& 0x80 = 0 := by decide +revert
  cases cin
  · simp
  · exact (BitVec.add_eq_or_of_and_eq_zero _ _ hfree).symm

theorem rolStep_eq (v : Byte) (cin : Bool) :
    rolStep v cin = (BitVec.ofNat 8 (2 * v.toNat + if cin then 1 else 0), decide (128 ≤ v.toNat)) := by
  rw [rolStep, msb_eq_decide, shiftLeft_or_carry, shiftLeft_one_eq, BitVec.ofNat_add]

theorem rorStep_eq (v : Byte) (cin : Bool) :
    rorStep v cin = (BitVec.ofNat 8 (v.toNat / 2 + 128 * if cin then 1 else 0), decide (v.toNat % 2 = 1)) := by
  rw [rorStep, lsb_eq_decide, shiftRight_or_carry, shiftRight_one_eq, BitVec.ofNat_add]

end Sys2Proof.Proofs.ShiftSteps
end

section
/-! The transcription of the spec's pseudocode (`Reference`), rule by rule: integers brought back to width are the model's words,
and each shared operation of the transcription is the model's. -/

namespace Sys2Proof.Proofs.ReferenceOps

open Sys2Proof.Machine Sys2Proof.Proofs.Scope Sys2Proof.Proofs.ArithLogic Sys2Proof.Proofs.ControlTransfer

/-! ## Words (R10, R11) -/

theorem u8_natCast (n : Nat) : Reference.u8 n = BitVec.ofNat 8 n := BitVec.ofInt_natCast ..

theorem u16_natCast (n : Nat) : Reference.u16 n = BitVec.ofNat 16 n := BitVec.ofInt_natCast ..

theorem u8_toNat (v : Byte) : Reference.u8 v.toNat = v := by
  rw [u8_natCast, BitVec.ofNat_toNat, BitVec.setWidth_eq]

theorem u16_toNat (w : Addr) : Reference.u16 w.toNat = w := by
  rw [u16_natCast, BitVec.ofNat_toNat, BitVec.setWidth_eq]

theorem u8_add (v : Byte) (k : Int) : Reference.u8 (v.toNat + k) = v + Reference.u8 k :=
  (BitVec.ofInt_add ..).trans (congrArg (· + _) (u8_toNat v))

theorem u16_add (w : Addr) (k : Int) : Reference.u16 (w.toNat + k) = w + Reference.u16 k :=
  (BitVec.ofInt_add ..).trans (congrArg (· + _) (u16_toNat w))

theorem u8_sub (v : Byte) (k : Int) : Reference.u8 (v.toNat - k) = v - Reference.u8 k := by
  rw [Int.sub_eq_add_neg, u8_add, BitVec.sub_eq_add_neg]
  exact congrArg (v + ·) (BitVec.ofInt_neg ..)

theorem u16_sub (w : Addr) (k : Int) : Reference.u16 (w.toNat - k) = w - Reference.u16 k := by
  rw [Int.sub_eq_add_neg, u16_add, BitVec.sub_eq_add_neg]
  exact congrArg (w + ·) (BitVec.ofInt_neg ..)

theorem u16_byte (v : Byte) : Reference.u16 v.toNat = zext16 v := by
  rw [u16_natCast, zext16_eq_ofNat]

theorem word_eq_hiLo (hi lo : Byte) : Reference.word hi lo = hiLo hi lo := by
  rw [Reference.word, ← u16_toNat (hiLo hi lo), hiLo_toNat]
  rfl

/-! ## Fetch and stack (R14, R260, R261) -/

section
variable (s : State)

theorem fetchByte_eq : Reference.fetchByte s = (s.read s.pc, s.skipByte) :=
  congrArg (fun w => (s.read s.pc, s.setPc w)) (u16_add s.pc 1)

theorem stackAddr_eq (sp : Byte) : Reference.u16 (0x0100 + sp.toNat) = stackAddr sp := by
  rw [Int.add_comm, ← zext16_toNat, u16_add, BitVec.add_comm]
  rfl

theorem push_eq (v : Byte) : Reference.push v s = s.push v := by
  rw [Reference.push, stackAddr_eq, u8_sub]
  rfl

theorem push16_eq (w : Addr) : Reference.push16 w s = s.push16 w := by
  have hlow : Reference.u8 ((w.toNat : Int) % 256) = lowByte w := by
    rw [← u8_toNat (lowByte w), lowByte_toNat]
    rfl
  have hhigh : Reference.u8 ((w.toNat : Int) / 256) = highByte w := by
    rw [← u8_toNat (highByte w), highByte_toNat]
    rfl
  rw [Reference.push16, hlow, hhigh, push_eq, push_eq]
  rfl

theorem pull_eq : Reference.pull s = (s.pull, s.pulled) := by
  rw [Reference.pull, u8_add, stackAddr_eq]
  rfl

theorem pull16_eq : Reference.pull16 s = (s.pull16, s.pulled.pulled) := by
  simp only [Reference.pull16, pull_eq, word_eq_hiLo]
  rfl

end

/-! ## P from the stack (R265): six flag writes are one write of P -/

/-- The state with another P. -/
def withP (q : Byte) (s : State) : State := { s with p := q }

theorem withP_setFlag (q : Byte) (f : Flag) (on : Bool) (s : State) : withP q (s.setFlag f on) = withP q s := rfl

/-- A state is what P leaves out and the eight bits of P: the seven flags and bit 5. -/
theorem eq_of_flags {s t : State} (hrest : ∀ q, withP q s = withP q t) (hflags : ∀ f, s.flag f = t.flag f)
    (hunused : s.p.getLsbD 5 = t.p.getLsbD 5) : s = t := by
  have hp : s.p = t.p := by
    apply BitVec.eq_of_getLsbD_eq
    intro j hj
    interval_cases j
    · exact hflags .c
    · exact hflags .z
    · exact hflags .i
    · exact hflags .d
    · exact hflags .b
    · exact hunused
    · exact hflags .v
    · exact hflags .n
  calc s = withP t.p s := congrArg (withP · s) hp
    _ = t := hrest t.p

/-- The six flags that a pull takes from the byte. -/
def setSixFlags (v : Byte) (s : State) : State :=
  (((((s.setFlag .n (v.getLsbD 7)).setFlag .v (v.getLsbD 6)).setFlag .d (v.getLsbD 3)).setFlag .i (v.getLsbD 2)).setFlag .z
    (v.getLsbD 1)).setFlag .c (v.getLsbD 0)

theorem setSixFlags_flag (v : Byte) (s : State) (f : Flag) :
    (setSixFlags v s).flag f = if f = .b then s.flag .b else v.getLsbD (flagBit f) := by
  cases f <;> simp only [setSixFlags, State.setFlag_flag, reduceCtorEq, ↓reduceIte, flagBit]

theorem withP_setSixFlags (q v : Byte) (s : State) : withP q (setSixFlags v s) = withP q s := by
  simp only [setSixFlags, withP_setFlag]

theorem pullP_eq_setSixFlags (s : State) :
    Reference.pullP s = if s.params.pullB = .keep then setSixFlags s.pull s.pulled
      else (setSixFlags s.pull s.pulled).setFlag .b false := by
  rw [Reference.pullP, pull_eq]
  change (match s.params.pullB with
    | .keep => setSixFlags s.pull s.pulled
    | .clear => (setSixFlags s.pull s.pulled).setFlag .b false) = _
  cases s.params.pullB <;> rfl

theorem pullP_eq (s : State) : Reference.pullP s = s.pullP := by
  rw [pullP_eq_setSixFlags]
  split
  · next h =>
    refine eq_of_flags (fun q => withP_setSixFlags q ..) (fun f => ?_) ((State.setFlag_unused ..).trans s.pullP_unused.symm)
    rw [setSixFlags_flag, State.pullP_flag, if_pos h, State.pulled_flag]
  · next h =>
    refine eq_of_flags (fun q => (withP_setFlag q ..).trans (withP_setSixFlags q ..)) (fun f => ?_) ((State.setFlag_unused ..).trans s.pullP_unused.symm)
    rw [State.setFlag_flag, setSixFlags_flag, State.pullP_flag, if_neg h]
    split <;> rfl

/-! ## Arithmetic, compare and branches -/

theorem u8_compl (v : Byte) : Reference.u8 (255 - (v.toNat : Int)) = ~~~v := by
  rw [← u8_toNat (~~~v), BitVec.toNat_not]
  have := v.isLt
  congr 1
  omega

theorem addCarry_eq (v : Byte) (s : State) : Reference.addCarry v s = addToA v s := by
  let cin : Int := if s.flag .c then 1 else 0
  let sum := addWithCarry s.a v (s.flag .c)
  have hcin : cin = ((if s.flag .c then 1 else 0 : Nat) : Int) := (Nat.cast_ite ..).symm
  have hresult : Reference.u8 (s.a.toNat + v.toNat + cin) = sum.result := by
    apply BitVec.eq_of_toNat_eq
    rw [addWithCarry_result_toNat, hcin, ← Nat.cast_add, ← Nat.cast_add, u8_natCast, BitVec.toNat_ofNat]
  have hc : decide (255 < s.a.toNat + v.toNat + cin) = sum.c := by
    rw [addWithCarry_c, hcin]
    exact decide_eq_decide.mpr (by omega)
  have hv : decide (s.a.toInt + v.toInt + cin < -128 ∨ 127 < s.a.toInt + v.toInt + cin) = sum.v :=
    Bool.eq_iff_iff.mpr (decide_eq_true_iff.trans (addWithCarry_v_iff_signed ..).symm)
  change (((s.setA (Reference.u8 (s.a.toNat + v.toNat + cin))).setFlag .c (decide (255 < s.a.toNat + v.toNat + cin))).setFlag .v
    (decide (s.a.toInt + v.toInt + cin < -128 ∨ 127 < s.a.toInt + v.toInt + cin))).setZN
      (Reference.u8 (s.a.toNat + v.toNat + cin)) = _
  rw [hresult, hc, hv]
  rfl

theorem compareWith_eq (r m : Byte) (s : State) : Reference.compareWith r m s = s.compare r m := by
  rw [Reference.compareWith, u8_sub, u8_toNat]
  rfl

/-- The signed offset is added as the sign-extended byte (R132). -/
theorem u16_add_toInt (w : Addr) (r : Byte) : Reference.u16 (w.toNat + r.toInt) = w + sext16 r := u16_add w r.toInt

theorem branchIf_eq (cond : Bool) (r : Byte) (s : State) : Reference.branchIf cond r.toInt s = branchIf cond r s := by
  cases cond
  · rfl
  · have hcrossed := pageCrossed_toNat s.pc (s.pc + sext16 r)
    simp only [Reference.branchIf, Machine.branchIf, u16_add_toInt, hcrossed, ↓reduceIte]
    split <;> rfl

end Sys2Proof.Proofs.ReferenceOps
end

section
/-! The effects of files 42 to 46 as the transcription writes them, mnemonic by mnemonic, are the model's (`effectOf`). -/

namespace Sys2Proof.Proofs.ReferenceEffects

open Sys2Proof.Machine Sys2Proof.Proofs.ShiftSteps Sys2Proof.Proofs.ReferenceOps Sys2Proof.Proofs.EffectFrames

/-- The mnemonics whose effect reads the operand value (R180). -/
def operandReaders : List Mnemonic := [.lda, .ldx, .ldy, .adc, .sbc, .and, .ora, .eor, .cmp, .cpx, .cpy, .bit]

/-- The mnemonics whose effect uses the effective address. -/
def addressUsers : List Mnemonic := [.sta, .stx, .sty, .inc, .dec, .asl, .lsr, .rol, .ror, .jmp, .jsr]

/-- `Get` and `Put` of R220 around a shift step are the read-modify-write of the form. -/
theorem putResult_eq_modifyEffect (m : Mode) (ea : Addr) (s : State) (fn : Byte → Bool → Byte × Bool) {r : Byte} {out : Bool}
    (h : fn (Reference.getOperand m ea s) (s.flag .c) = (r, out)) :
    (Reference.putResult m ea r (s.setFlag .c out)).setZN r = modifyEffect (decide (m = .acc)) ea (shifted fn) s := by
  by_cases hm : m = .acc
  · simp only [Reference.getOperand, hm, ↓reduceIte] at h
    simp only [Reference.putResult, modifyEffect, shifted, hm, h, decide_true, ↓reduceIte]
    rfl
  · simp only [Reference.getOperand, hm, ↓reduceIte] at h
    simp only [Reference.putResult, modifyEffect, shifted, hm, h, decide_false, Bool.false_eq_true, ↓reduceIte]
    rfl

/-- PHP and BRK push bits 4 and 5 as 1, whether bit 5 is read through `readP` or not (R37). -/
theorem pushedP_eq (s : State) : s.p ||| 0x30 = s.readP ||| 0x30 := by
  rw [State.readP, BitVec.or_assoc]
  rfl

theorem effect_eq (k : Mnemonic) (m : Mode) (ea ea' : Addr) (off : Int) (v : Byte) (s : State)
    (hacc : m = .acc → k ∈ [.asl, .lsr, .rol, .ror]) (hv : k ∈ operandReaders → s.read ea = v)
    (hea : k ∈ addressUsers → ea = ea') (hoff : k ∈ branches → off = v.toInt) :
    Reference.effect k m ea off s = effectOf (decide (m = .acc)) ea' v s k := by
  cases k
  case lda | ldx | ldy | and | ora | eor | bit =>
    obtain rfl := hv (by decide)
    rfl
  case sta | stx | sty | jmp =>
    obtain rfl := hea (by decide)
    rfl
  case tax | tay | txa | tya | tsx | txs | clc | sec | cli | sei | clv | cld | sed | nop => rfl
  case adc =>
    obtain rfl := hv (by decide)
    exact addCarry_eq (s.read ea) s
  case sbc =>
    obtain rfl := hv (by decide)
    exact (addCarry_eq _ s).trans (congrArg (addToA · s) (u8_compl (s.read ea)))
  case cmp | cpx | cpy =>
    obtain rfl := hv (by decide)
    exact compareWith_eq _ (s.read ea) s
  case inc =>
    obtain rfl := hea (by decide)
    rw [decide_eq_false fun h => absurd (hacc h) (by decide)]
    exact congrArg (fun w => (s.write ea w).setZN w) (u8_add (s.read ea) 1)
  case dec =>
    obtain rfl := hea (by decide)
    rw [decide_eq_false fun h => absurd (hacc h) (by decide)]
    exact congrArg (fun w => (s.write ea w).setZN w) (u8_sub (s.read ea) 1)
  case inx => exact congrArg (loadX · s) (u8_add s.x 1)
  case iny => exact congrArg (loadY · s) (u8_add s.y 1)
  case dex => exact congrArg (loadX · s) (u8_sub s.x 1)
  case dey => exact congrArg (loadY · s) (u8_sub s.y 1)
  case asl =>
    obtain rfl := hea (by decide)
    exact putResult_eq_modifyEffect m ea s aslStep ((aslStep_eq ..).trans (congrArg (·, _) (u8_natCast _).symm))
  case lsr =>
    obtain rfl := hea (by decide)
    exact putResult_eq_modifyEffect m ea s lsrStep ((lsrStep_eq ..).trans (congrArg (·, _) (u8_natCast _).symm))
  case rol =>
    obtain rfl := hea (by decide)
    exact putResult_eq_modifyEffect m ea s rolStep ((rolStep_eq ..).trans (congrArg (·, _) (u8_natCast _).symm))
  case ror =>
    obtain rfl := hea (by decide)
    exact putResult_eq_modifyEffect m ea s rorStep ((rorStep_eq ..).trans (congrArg (·, _) (u8_natCast _).symm))
  case bpl | bmi | bvc | bvs | bcc | bcs | bne | beq =>
    obtain rfl := hoff (by decide)
    exact branchIf_eq _ v s
  case jsr =>
    obtain rfl := hea (by decide)
    refine congrArg (State.setPc ea) ?_
    rw [u16_sub, push16_eq]
    rfl
  case rts =>
    simp only [Reference.effect, pull16_eq, u16_add]
    rfl
  case pha => exact push_eq s s.a
  case php => exact (push_eq s _).trans (congrArg (State.push · s) (pushedP_eq s))
  case pla =>
    simp only [Reference.effect, pull_eq]
    rfl
  case plp => exact pullP_eq s
  case brk =>
    simp only [Reference.effect, fetchByte_eq, push_eq, push16_eq, pushedP_eq]
    rfl
  case rti =>
    simp only [Reference.effect, pullP_eq, pull16_eq]
    rfl

end Sys2Proof.Proofs.ReferenceEffects
end

section
/-! The step of the model is the transcription's (R140): the same descriptor for every opcode byte, the same address, operand and
crossing for every mode, the same effect for every mnemonic. -/

namespace Sys2Proof.Proofs.ReferenceStep

open Sys2Proof.Machine Sys2Proof.Claims Sys2Proof.Proofs.Scope Sys2Proof.Proofs.Encoding Sys2Proof.Proofs.EffectFrames
  Sys2Proof.Proofs.StepAndRun Sys2Proof.Proofs.ReferenceOps Sys2Proof.Proofs.ReferenceEffects

/-! ## The table (R92, R100, R103, R104) -/

/-- The rows of R100, in the four parts the transcription writes them in. -/
def documentedRows : List (Byte × Descriptor) :=
  Reference.table1 ++ Reference.table2 ++ Reference.table3 ++ Reference.table4

/-- The descriptor of a slot's instruction, which no operand changes. -/
def slotDescriptor : Slot → Descriptor
  | .f1 i => descriptorOf i
  | .f2 mk => descriptorOf (mk 0)
  | .f3 mk => descriptorOf (mk 0)

/-- The descriptor of the instruction that stands at an opcode of the map. -/
def mapDescriptor (op : Byte) : Option Descriptor := (opcodeMap[op.toNat]?).join.map slotDescriptor

theorem mapDescriptor_opcodeOf (i : Instr) : mapDescriptor (opcodeOf i) = some (descriptorOf i) := by
  cases i <;> rfl

theorem documentedRows_lookup (op : Byte) :
    documentedRows.lookup op = if nopCandidates.contains op then none else mapDescriptor op := by
  decide +revert

theorem candidates_lookup (op : Byte) :
    Reference.candidates.lookup op = if nopCandidates.contains op then mapDescriptor op else none := by
  decide +revert

/-- The transcription's table and the model's agree on every opcode byte, whatever UNOFFICIAL_NOPS holds. -/
theorem lookup_eq (nops : List Byte) (op : Byte) : Reference.lookup nops op = (tableSlot nops op).map slotDescriptor := by
  change (match documentedRows.lookup op with
    | some d => some d
    | none => if nops.contains op then Reference.candidates.lookup op else none) = _
  rw [documentedRows_lookup, candidates_lookup, tableSlot]
  cases nopCandidates.contains op
  · change (match mapDescriptor op with
      | some d => some d
      | none => if nops.contains op then none else none) = mapDescriptor op
    cases mapDescriptor op
    · exact ite_self none
    · rfl
  · cases nops.contains op <;> rfl

theorem lookup_of_wf {nops : List Byte} {i : Instr} (h : i.wf nops = true) :
    Reference.lookup nops (opcodeOf i) = some (descriptorOf i) := by
  rw [lookup_eq, tableSlot_of_wf h]
  exact mapDescriptor_opcodeOf i

theorem lookup_of_unknownAt {s : State} (h : UnknownAt s) :
    Reference.lookup s.params.unofficialNops (s.read s.pc) = none := by
  rw [lookup_eq, (tableSlot_eq_none_iff _ _).mpr h]
  rfl

/-! ## The addressing modes (R120 to R132) -/

/-- The address and the crossing of a mode with its operand bytes. -/
def resolvedBy (m : Mode) (bytes : List Byte) (s : State) : Resolved :=
  match m, bytes with
  | .zp, [n] => zp n
  | .zpx, [n] => zpx n s
  | .zpy, [n] => zpy n s
  | .izx, [n] => izx n s
  | .izy, [n] => izy n s
  | .abs, [lo, hi] => abs16 (hiLo hi lo)
  | .absx, [lo, hi] => absx (hiLo hi lo) s
  | .absy, [lo, hi] => absy (hiLo hi lo) s
  | .ind, [lo, hi] => ind (hiLo hi lo) s
  | _, _ => ⟨0, false⟩

theorem formOf_resolved (i : Instr) (s : State) :
    (formOf s i).1 = resolvedBy (descriptorOf i).mode (operandBytesOf i) s := by
  cases i <;> simp only [formOf, resolvedBy, descriptorOf, operandBytesOf, hiLo_bytes]

/-- The operand value of a form that reads one: its own byte in immediate mode, else the byte at its address. -/
theorem formOf_value {i : Instr} (s : State) (h : (descriptorOf i).mnemonic ∈ operandReaders) :
    (formOf s i).2 = if (descriptorOf i).mode = .imm then (operandBytesOf i).headD 0 else s.read (formOf s i).1.ea := by
  cases i <;> simp only [descriptorOf, operandReaders, List.mem_cons, List.not_mem_nil, reduceCtorEq, or_false, or_self] at h <;> rfl

/-- The offset of a branch is its one operand byte. -/
theorem formOf_offset {i : Instr} (s : State) (h : (descriptorOf i).mnemonic ∈ branches) :
    (descriptorOf i).mode = .rel ∧ operandBytesOf i = [(formOf s i).2] := by
  cases i
  case bpl | bmi | bvc | bvs | bcc | bcs | bne | beq => exact ⟨rfl, rfl⟩
  all_goals simp [descriptorOf, branches] at h

theorem mode_ne_imm_of_addressUser {i : Instr} (h : (descriptorOf i).mnemonic ∈ addressUsers) :
    (descriptorOf i).mode ≠ .imm := by
  intro hm
  cases i <;> simp only [descriptorOf, reduceCtorEq] at hm <;> simp [descriptorOf, addressUsers] at h

/-! ## The transcription's resolver -/

theorem indexedBy_eq (base : Addr) (index : Byte) (s : State) :
    Reference.indexedBy base index s = ⟨(indexed base index).ea, 0, (indexed base index).crossed, s⟩ := by
  have hea : Reference.u16 (base.toNat + index.toNat) = (indexed base index).ea := by
    rw [u16_add, u16_byte]
    rfl
  rw [Reference.indexedBy, hea, indexed_crossed, indexed_ea_toNat]

theorem read16Zp_eq (s : State) (p : Byte) : Reference.read16Zp s p.toNat = s.read16Zp p := by
  rw [Reference.read16Zp, word_eq_hiLo, u16_natCast, u16_byte, ← zext16_succ_eq_ofNat]
  rfl

theorem read16Zp_sum_eq (s : State) (b index : Byte) :
    Reference.read16Zp s ((b.toNat + index.toNat) % 256) = s.read16Zp (b + index) := by
  rw [← BitVec.toNat_add, read16Zp_eq]

theorem u16_sum_mod_256 (b index : Byte) : Reference.u16 ((b.toNat + index.toNat) % 256 : Nat) = zext16 (b + index) := by
  rw [← BitVec.toNat_add, u16_byte]

/-- The page bug (R129), by cases on the pointer's low byte. -/
theorem pageBug_eq (w : Addr) :
    (if w.toNat % 256 = 255 then Reference.u16 (w.toNat - 255) else Reference.u16 (w.toNat + 1)) =
      hiLo (highByte w) (lowByte w + 1) := by
  rw [succInPage_eq_ofNat]
  split
  · next h =>
    have hstart : (w.toNat : Int) - 255 = ((w.toNat / 256 * 256 + (w.toNat + 1) % 256 : Nat) : Int) := by omega
    rw [hstart, u16_natCast]
  · next h =>
    have hnext : (w.toNat : Int) + 1 = ((w.toNat / 256 * 256 + (w.toNat + 1) % 256 : Nat) : Int) := by omega
    rw [hnext, u16_natCast]

theorem signedOffset_eq (b : Byte) : (if b.toNat < 128 then (b.toNat : Int) else b.toNat - 256) = b.toInt := by
  rw [BitVec.toInt_eq_toNat_cond]
  split <;> split <;> omega

/-- What the transcription's resolver answers in a state whose PC is at the operand bytes. -/
structure Resolves (m : Mode) (u : State) (bytes : List Byte) (r : Reference.Resolution) : Prop where
  state : r.state = u.setPc (u.pc + BitVec.ofNat 16 (modeOperandBytes m))
  crossed : r.crossed = (resolvedBy m bytes u).crossed
  address : m ≠ .imm → r.ea = (resolvedBy m bytes u).ea
  immediate : m = .imm → r.ea = u.pc
  offset : m = .rel → r.off = (u.read u.pc).toInt

theorem resolve_resolves (m : Mode) (u : State) :
    Resolves m u ([u.read u.pc, u.read (u.pc + 1)].take (modeOperandBytes m)) (Reference.resolve m u) := by
  have hone : u.skipByte = u.setPc (u.pc + BitVec.ofNat 16 1) := rfl
  have htwo : u.skipByte.skipByte = u.setPc (u.pc + BitVec.ofNat 16 2) := congrArg (u.setPc ·) (BitVec.add_assoc u.pc 1 1)
  have hnone : u = u.setPc (u.pc + BitVec.ofNat 16 0) := congrArg (u.setPc ·) (BitVec.add_zero u.pc).symm
  simp only [Reference.resolve, fetchByte_eq, word_eq_hiLo, u16_byte, u16_sum_mod_256, indexedBy_eq, read16Zp_eq,
    read16Zp_sum_eq, pageBug_eq, signedOffset_eq]
  cases m
  case imp | acc => exact ⟨hnone, rfl, fun _ => rfl, nofun, nofun⟩
  case imm => exact ⟨hone, rfl, fun h => absurd rfl h, fun _ => rfl, nofun⟩
  case zp | zpx | zpy | izx | izy => exact ⟨hone, rfl, fun _ => rfl, nofun, nofun⟩
  case abs | absx | absy | ind => exact ⟨htwo, rfl, fun _ => rfl, nofun, nofun⟩
  case rel => exact ⟨hone, rfl, fun _ => rfl, nofun, fun _ => rfl⟩

/-! ## The step -/

/-- The operand bytes of a decoded instruction are the first of the two bytes after its opcode. -/
theorem operandBytesOf_eq_take {i : Instr} {op b1 b2 : Byte} {rest : List Byte} (h : [op, b1, b2] = encode i ++ rest) :
    op = opcodeOf i ∧ operandBytesOf i = [b1, b2].take (modeOperandBytes (descriptorOf i).mode) := by
  obtain ⟨hop, hbytes⟩ := List.cons_eq_cons.mp (h.trans List.cons_append)
  have hlen : (operandBytesOf i).length = modeOperandBytes (descriptorOf i).mode := by cases i <;> rfl
  refine ⟨hop, ?_⟩
  rw [hbytes, ← hlen, List.take_left]

/-- The transcription's effect at what its resolver answers is the effect of the instruction. -/
theorem effect_resolve_eq {i : Instr} {u : State}
    (hbytes : operandBytesOf i = [u.read u.pc, u.read (u.pc + 1)].take (modeOperandBytes (descriptorOf i).mode)) :
    let d := descriptorOf i
    let r := Reference.resolve d.mode u
    let t := u.setPc (u.pc + BitVec.ofNat 16 (modeOperandBytes d.mode))
    Reference.effect d.mnemonic d.mode r.ea r.off r.state =
        effectOf (decide (d.mode = .acc)) (formOf t i).1.ea (formOf t i).2 t d.mnemonic ∧
      r.crossed = (formOf t i).1.crossed := by
  intro d r t
  obtain ⟨hstate, hcrossed, haddress, himmediate, hoffset⟩ := resolve_resolves d.mode u
  rw [← hbytes, ← formOf_resolved] at hcrossed haddress
  have hform : formOf t i = formOf u i := formOf_congr i u t rfl rfl rfl
  have hvalue (hk : d.mnemonic ∈ operandReaders) : t.read r.ea = (formOf u i).2 := by
    rw [formOf_value u hk]
    split
    · next hm =>
      rw [himmediate hm, hbytes, hm]
      rfl
    · next hm =>
      rw [haddress hm]
      rfl
  have hoff (hk : d.mnemonic ∈ branches) : r.off = (formOf u i).2.toInt := by
    obtain ⟨hm, hbyte⟩ := formOf_offset u hk
    rw [hoffset hm]
    rw [hbytes, hm] at hbyte
    exact congrArg BitVec.toInt (List.cons_eq_cons.mp hbyte).1
  rw [hform]
  refine ⟨?_, hcrossed⟩
  rw [hstate]
  exact effect_eq _ _ _ _ _ _ t mnemonic_of_mode_acc hvalue (fun hk => haddress (mode_ne_imm_of_addressUser hk)) hoff

/-- The accounting of R145 and R146, as the transcription writes it. -/
theorem account_eq (t : State) (d : Descriptor) (crossed : Bool) :
    { t with cycles := t.cycles + d.baseCycles + (if d.pageCrossExtra && crossed then 1 else 0) } = t.account d crossed := by
  rw [State.account, Nat.add_assoc]
  cases d.pageCrossExtra && crossed <;> rfl

/-- A step of the transcription at a known opcode: its effect at what its resolver answers, then the accounting. -/
theorem referenceStep_of_lookup {s : State} {d : Descriptor} (hs : s.halted = false)
    (hd : Reference.lookup s.params.unofficialNops (s.read s.pc) = some d) :
    Reference.step s =
      let r := Reference.resolve d.mode s.skipByte
      (Reference.effect d.mnemonic d.mode r.ea r.off r.state).account d r.crossed := by
  simp only [Reference.step, hs, fetchByte_eq, hd, account_eq, Bool.false_eq_true, ↓reduceIte]

theorem referenceStep_of_decoded {s : State} {i : Instr} {rest : List Byte} (hs : s.halted = false)
    (h : decode s.params.unofficialNops [s.read s.pc, s.read (s.pc + 1), s.read (s.pc + 2)] = .ok (i, rest)) :
    exec i (s.pastOperands i) = .next (Reference.step s) := by
  obtain ⟨hwf, hencode⟩ := decodedBytesAreTheEncoding _ _ _ _ h
  obtain ⟨hop, hbytes⟩ := operandBytesOf_eq_take hencode
  have hthird : s.pc + 2 = s.pc + 1 + 1 := (BitVec.add_assoc s.pc 1 1).symm
  rw [hthird] at hbytes
  obtain ⟨heffect, hcrossed⟩ := effect_resolve_eq (u := s.skipByte) hbytes
  have hpast : s.skipByte.setPc (s.skipByte.pc + BitVec.ofNat 16 (modeOperandBytes (descriptorOf i).mode)) =
      s.pastOperands i := congrArg (s.setPc ·) (add_fetchedBytes s.pc i).symm
  rw [hpast] at heffect hcrossed
  rw [referenceStep_of_lookup hs (hop ▸ lookup_of_wf hwf), exec_effect]
  simp only [heffect, hcrossed]

/-- Settles O53: a halted core stays, a decoded instruction is `referenceStep_of_decoded`, and an unknown opcode has no row. -/
theorem stepIsTheSpecsPseudocode : Obligations.StepIsTheSpecsPseudocode := by
  intro s
  cases hs : s.halted with
  | true =>
    rw [step_halted s hs, Reference.step, hs]
    rfl
  | false =>
    obtain ⟨i, hi, hstep⟩ | ⟨why, hwhy, hstep⟩ := step_running s hs
    · obtain ⟨rest, hdec⟩ := (s.instrAt_ok s.pc i).mp hi
      exact hstep.trans (referenceStep_of_decoded hs hdec)
    · have hlookup := lookup_of_unknownAt ((exists_instrAt_error_iff s).mp ⟨why, hwhy⟩)
      rw [hstep, Reference.step]
      simp only [hs, fetchByte_eq, hlookup]
      rfl

end Sys2Proof.Proofs.ReferenceStep
end

section
/-! The results of the instructions on registers and flags (spec/42_load_store_transfer.md and spec/43_arith_logic.md): each form
runs its effect at its operand in its cycles, and the effect's values and frame do the rest. -/

namespace Sys2Proof.Proofs.RegisterInstructions

open Sys2Proof.Machine Sys2Proof.Claims Sys2Proof.Proofs.Scope Sys2Proof.Proofs.ArithLogic Sys2Proof.Proofs.Frames

/-! ## Every form runs its family's effect at its operand -/

section
variable (n : Byte) (w : Addr) (s : State)

/-- The forms of a family run an effect at their operand, then count their cycles. -/
def RunsAtOperand (effect : Byte → State → State) (forms : List Form) : Prop :=
  ∀ f ∈ forms, exec f.instr s = .next ((effect f.operand s).addCycles f.cycles)

theorem ldaForms_run : RunsAtOperand s loadA (ldaForms n w s) :=
  List.forall_iff_forall_mem.mp ⟨rfl, rfl, rfl, rfl, rfl, rfl, rfl, rfl⟩

theorem ldxForms_run : RunsAtOperand s loadX (ldxForms n w s) :=
  List.forall_iff_forall_mem.mp ⟨rfl, rfl, rfl, rfl, rfl⟩

theorem ldyForms_run : RunsAtOperand s loadY (ldyForms n w s) :=
  List.forall_iff_forall_mem.mp ⟨rfl, rfl, rfl, rfl, rfl⟩

theorem adcForms_run : RunsAtOperand s addA (adcForms n w s) :=
  List.forall_iff_forall_mem.mp ⟨rfl, rfl, rfl, rfl, rfl, rfl, rfl, rfl⟩

theorem sbcForms_run : RunsAtOperand s subtractA (sbcForms n w s) :=
  List.forall_iff_forall_mem.mp ⟨rfl, rfl, rfl, rfl, rfl, rfl, rfl, rfl⟩

theorem andForms_run : RunsAtOperand s andA (andForms n w s) :=
  List.forall_iff_forall_mem.mp ⟨rfl, rfl, rfl, rfl, rfl, rfl, rfl, rfl⟩

theorem oraForms_run : RunsAtOperand s orA (oraForms n w s) :=
  List.forall_iff_forall_mem.mp ⟨rfl, rfl, rfl, rfl, rfl, rfl, rfl, rfl⟩

theorem eorForms_run : RunsAtOperand s xorA (eorForms n w s) :=
  List.forall_iff_forall_mem.mp ⟨rfl, rfl, rfl, rfl, rfl, rfl, rfl, rfl⟩

theorem cmpForms_run : RunsAtOperand s compareA (cmpForms n w s) :=
  List.forall_iff_forall_mem.mp ⟨rfl, rfl, rfl, rfl, rfl, rfl, rfl, rfl⟩

theorem cpxForms_run : RunsAtOperand s compareX (cpxForms n w s) :=
  List.forall_iff_forall_mem.mp ⟨rfl, rfl, rfl⟩

theorem cpyForms_run : RunsAtOperand s compareY (cpyForms n w s) :=
  List.forall_iff_forall_mem.mp ⟨rfl, rfl, rfl⟩

theorem bitForms_run : RunsAtOperand s bitTest
    [⟨.bitZp n, s.read (zp n).ea, 3⟩, ⟨.bitAbs w, s.read (abs16 w).ea, 4⟩] :=
  List.forall_iff_forall_mem.mp ⟨rfl, rfl⟩

end

section
variable {s : State} {i : Instr} {v : Byte} {k : Nat}

/-- The counter's frame, after any other. -/
theorem addCycles_after {t : State} {regs : List Reg} {flags : List Flag} {stored : List Addr}
    (h : Frame s t regs flags stored) (k : Nat) : Frame s (t.addCycles k) regs flags stored :=
  ⟨fun r hr => ((addCycles_frame t k).registers r List.not_mem_nil).trans (h.registers r hr), h.flags, h.unused, h.memory,
    h.halted, h.reason, h.params⟩

/-! ## Loads and transfers (R160 to R171) -/

theorem loadsRegister_of_loadA (h : exec i s = .next ((loadA v s).addCycles k)) : LoadsRegister s i .a v k :=
  ⟨_, h, rfl, setZN_flag_z _ v, setZN_flag_n _ v, rfl, rfl, addCycles_after (loadA_frame s v) k⟩

theorem loadsRegister_of_loadX (h : exec i s = .next ((loadX v s).addCycles k)) : LoadsRegister s i .x v k :=
  ⟨_, h, rfl, setZN_flag_z _ v, setZN_flag_n _ v, rfl, rfl, addCycles_after (loadX_frame s v) k⟩

theorem loadsRegister_of_loadY (h : exec i s = .next ((loadY v s).addCycles k)) : LoadsRegister s i .y v k :=
  ⟨_, h, rfl, setZN_flag_z _ v, setZN_flag_n _ v, rfl, rfl, addCycles_after (loadY_frame s v) k⟩

end

/-- Settles O12: every form of a load is `loadA`, `loadX` or `loadY` at its operand. -/
theorem loadsSetTheirRegisterAndZN : Obligations.LoadsSetTheirRegisterAndZN := fun s n w =>
  ⟨fun f hf => loadsRegister_of_loadA (ldaForms_run n w s f hf), fun f hf => loadsRegister_of_loadX (ldxForms_run n w s f hf),
    fun f hf => loadsRegister_of_loadY (ldyForms_run n w s f hf)⟩

/-- Settles O14: a transfer is a load of the source register; TXS writes SP alone. -/
theorem transfersMoveAndSetZN : Obligations.TransfersMoveAndSetZN := fun s =>
  ⟨loadsRegister_of_loadX rfl, loadsRegister_of_loadY rfl, loadsRegister_of_loadA rfl, loadsRegister_of_loadA rfl,
    loadsRegister_of_loadX rfl, _, rfl, rfl, rfl, rfl, addCycles_after (setSp_frame s s.x) 2⟩

/-- Settles O16: each is a load of the combined value into A. -/
theorem logicalInstructionsCombineIntoA : Obligations.LogicalInstructionsCombineIntoA := fun s n w =>
  ⟨fun f hf => loadsRegister_of_loadA (andForms_run n w s f hf), fun f hf => loadsRegister_of_loadA (oraForms_run n w s f hf),
    fun f hf => loadsRegister_of_loadA (eorForms_run n w s f hf)⟩

/-! ## Increments (R193 to R198) -/

theorem add_one_eq_ofNat (v : Byte) : v + 1 = BitVec.ofNat 8 (v.toNat + 1) := by
  rw [BitVec.ofNat_add, BitVec.ofNat_toNat, BitVec.setWidth_eq]
  rfl

theorem sub_one_eq_ofNat (v : Byte) : v - 1 = BitVec.ofNat 8 (v.toNat + 255) := by
  rw [BitVec.ofNat_add, BitVec.ofNat_toNat, BitVec.setWidth_eq, BitVec.sub_eq_add_neg]
  rfl

/-- Settles O20: each is a load of the register's next value. -/
theorem registerIncrementAndDecrementWrap : Obligations.RegisterIncrementAndDecrementWrap := by
  intro s
  rw [← add_one_eq_ofNat, ← add_one_eq_ofNat, ← sub_one_eq_ofNat, ← sub_one_eq_ofNat]
  exact ⟨loadsRegister_of_loadX rfl, loadsRegister_of_loadY rfl, loadsRegister_of_loadX rfl, loadsRegister_of_loadY rfl⟩

/-! ## Add and subtract (R181 to R184) -/

section
variable (s : State) (m : Byte)

theorem addToA_flag_c : (addToA m s).flag .c = (addWithCarry s.a m (s.flag .c)).c := by
  simp only [addToA, State.setZN_flag, State.setFlag_flag, reduceCtorEq, ↓reduceIte]

theorem addToA_flag_z : (addToA m s).flag .z = zOf (addToA m s).a := setZN_flag_z ..

theorem addToA_flag_n : (addToA m s).flag .n = nOf (addToA m s).a := setZN_flag_n ..

theorem addToA_flag_v : (addToA m s).flag .v = (addWithCarry s.a m (s.flag .c)).v := by
  simp only [addToA, State.setZN_flag, State.setFlag_flag, reduceCtorEq, ↓reduceIte]

end

/-- What an add with carry of `m` into A answers, in the terms of `AddWithCarry`. -/
theorem addToA_answers {s : State} {i : Instr} {m : Byte} {k : Nat} (h : exec i s = .next ((addToA m s).addCycles k)) :
    ∃ t, exec i s = .next t ∧ t.a = (addWithCarry s.a m (s.flag .c)).result ∧
      t.flag .c = (addWithCarry s.a m (s.flag .c)).c ∧ t.flag .v = (addWithCarry s.a m (s.flag .c)).v ∧
      t.flag .z = zOf t.a ∧ t.flag .n = nOf t.a ∧ t.pc = s.pc ∧ t.cycles = s.cycles + k ∧
      Frame s t [.a] [.n, .v, .z, .c] [] :=
  ⟨_, h, rfl, (State.addCycles_flag ..).trans (addToA_flag_c s m), (State.addCycles_flag ..).trans (addToA_flag_v s m),
    (State.addCycles_flag ..).trans (addToA_flag_z s m), (State.addCycles_flag ..).trans (addToA_flag_n s m), rfl, rfl,
    addCycles_after (frame_mono (addToA_frame s m) (fun _ h => h) (by decide) nofun) k⟩

/-- SBC adds the complement: 255 less the operand. -/
theorem compl_toNat (m : Byte) : (~~~m).toNat = 255 - m.toNat := BitVec.toNat_not

theorem compl_toInt (m : Byte) : (~~~m).toInt = -m.toInt - 1 := by
  have := m.isLt
  rw [BitVec.toInt_eq_toNat_cond, BitVec.toInt_eq_toNat_cond, compl_toNat]
  split <;> split <;> omega

section
variable (a m : Byte) (cin : Bool)

/-- R184: a subtraction with the borrow `1 - C`, as integers. -/
theorem addWithCarry_compl_result_toNat :
    ((addWithCarry a (~~~m) cin).result.toNat : Int) = ((a.toNat : Int) - m.toNat - (1 - if cin then 1 else 0)) % 256 := by
  have := m.isLt
  rw [addWithCarry_result_toNat, compl_toNat]
  cases cin <;> simp only [Bool.false_eq_true, ↓reduceIte] <;> omega

theorem addWithCarry_compl_c :
    (addWithCarry a (~~~m) cin).c = decide (m.toNat + (1 - if cin then 1 else 0) ≤ a.toNat) := by
  have := m.isLt
  rw [addWithCarry_c, compl_toNat, decide_eq_decide]
  cases cin <;> simp only [Bool.false_eq_true, ↓reduceIte] <;> omega

theorem addWithCarry_compl_v_iff :
    (addWithCarry a (~~~m) cin).v = true ↔
      a.toInt - m.toInt - (1 - if cin then 1 else 0) < -128 ∨ 127 < a.toInt - m.toInt - (1 - if cin then 1 else 0) := by
  rw [addWithCarry_v_iff_signed, compl_toInt]
  cases cin <;> simp only [Bool.false_eq_true, ↓reduceIte] <;> omega

end

/-- Settles O15: ADC adds the operand and SBC its complement; the arithmetic of both is that of `AddWithCarry`. -/
theorem addAndSubtractAreBinaryWithCarry : Obligations.AddAndSubtractAreBinaryWithCarry := by
  intro s n w c
  have hcarry : (c : Int) = if s.flag .c then 1 else 0 := Nat.cast_ite ..
  refine ⟨fun f hf => ?_, fun f hf => ?_⟩
  · obtain ⟨t, ht, ha, hc, hv, hrest⟩ := addToA_answers (adcForms_run n w s f hf)
    refine ⟨t, ht, ?_, ?_, ?_, hrest⟩
    · rw [ha, addWithCarry_result_toNat]
    · rw [hc, addWithCarry_c]
      rfl
    · rw [hv, addWithCarry_v_iff_signed, hcarry]
  · obtain ⟨t, ht, ha, hc, hv, hrest⟩ := addToA_answers (sbcForms_run n w s f hf)
    refine ⟨t, ht, ?_, ?_, ?_, hrest⟩
    · rw [ha, addWithCarry_compl_result_toNat, hcarry]
    · rw [hc, addWithCarry_compl_c]
    · rw [hv, addWithCarry_compl_v_iff, hcarry]

/-! ## Compare and bit test (R188 to R192) -/

/-- R188 sets Z by the difference, which is 0 exactly when register and operand are equal. -/
theorem compare_flag_z_eq (s : State) (r m : Byte) : (s.compare r m).flag .z = decide (r.toNat = m.toNat) := by
  have := r.isLt
  have := m.isLt
  rw [compare_flag_z, decide_eq_decide]
  omega

theorem comparesWith_of_compare {s : State} {f : Form} {r : Byte}
    (h : exec f.instr s = .next ((s.compare r f.operand).addCycles f.cycles)) : ComparesWith s r f :=
  ⟨_, h, (State.addCycles_flag ..).trans (compare_flag_c s r _), (State.addCycles_flag ..).trans (compare_flag_z_eq s r _),
    (State.addCycles_flag ..).trans (compare_flag_n s r _), rfl, rfl, addCycles_after (compare_frame s r _) _⟩

/-- Settles O17: every form is `State.compare` of its register and operand. -/
theorem comparesSetFlagsOnly : Obligations.ComparesSetFlagsOnly := fun s n w =>
  ⟨fun f hf => comparesWith_of_compare (cmpForms_run n w s f hf), fun f hf => comparesWith_of_compare (cpxForms_run n w s f hf),
    fun f hf => comparesWith_of_compare (cpyForms_run n w s f hf)⟩

section
variable (s : State) (m : Byte)

theorem bitTest_flag_z : (bitTest m s).flag .z = decide (s.a.toNat &&& m.toNat = 0) := by
  simp only [bitTest, State.setFlag_flag, reduceCtorEq, ↓reduceIte, beq_zero_eq_zOf, zOf, BitVec.toNat_and]

theorem bitTest_flag_n : (bitTest m s).flag .n = decide (128 ≤ m.toNat) := by
  simp only [bitTest, State.setFlag_flag, reduceCtorEq, ↓reduceIte]
  exact bit7_eq_nOf m

theorem bitTest_flag_v : (bitTest m s).flag .v = decide (64 ≤ m.toNat % 128) := by
  have hbit : m.getLsbD 6 = decide (m.toNat / 64 % 2 = 1) := Nat.testBit_eq_decide_div_mod_eq
  rw [bitTest, State.setFlag_flag, if_pos rfl, hbit, decide_eq_decide]
  omega

end

/-- Settles O18: both forms are `bitTest`. -/
theorem bitTestCopiesOperandBits : Obligations.BitTestCopiesOperandBits := fun s n w f hf =>
  ⟨_, bitForms_run n w s f hf, (State.addCycles_flag ..).trans (bitTest_flag_z s _),
    (State.addCycles_flag ..).trans (bitTest_flag_n s _), (State.addCycles_flag ..).trans (bitTest_flag_v s _), rfl, rfl,
    addCycles_after (frame_mono (bitTest_frame s _) nofun (by decide) nofun) _⟩

end Sys2Proof.Proofs.RegisterInstructions
end

section
/-! The results of stores, read-modify-writes and shifts (sections of spec/42 to spec/44): the cell at the effective address or A,
the flags of the new value, and the frame. -/

namespace Sys2Proof.Proofs.MemoryInstructions

open Sys2Proof.Machine Sys2Proof.Claims Sys2Proof.Proofs.Scope Sys2Proof.Proofs.Frames Sys2Proof.Proofs.ShiftSteps
  Sys2Proof.Proofs.RegisterInstructions

/-! ## Stores (R163 to R165) -/

theorem storeForms_run (n : Byte) (w : Addr) (s : State) :
    ∀ f ∈ storeForms n w s, exec f.1.instr s = .next ((s.write f.1.ea f.2).addCycles f.1.cycles) :=
  List.forall_iff_forall_mem.mp ⟨rfl, rfl, rfl, rfl, rfl, rfl, rfl, rfl, rfl, rfl, rfl, rfl, rfl⟩

theorem write_read_same (s : State) (a : Addr) (v : Byte) : (s.write a v).read a = v := by
  rw [State.write_read, if_pos rfl]

/-- Settles O13: every form is one write of its register at its effective address. -/
theorem storesWriteOnlyTheEffectiveAddress : Obligations.StoresWriteOnlyTheEffectiveAddress := fun s n w f hf =>
  ⟨_, storeForms_run n w s f hf, write_read_same s _ _, rfl, rfl, addCycles_after (write_frame s _ _) _⟩

/-! ## Read-modify-writes of a cell (R66, R193, R194, R220) -/

/-- The memory forms of a family run a read-modify-write at their address, then count their cycles. -/
def ModifiesAtAddress (s : State) (fn : Byte → State → Byte × State) (forms : List MemForm) : Prop :=
  ∀ f ∈ forms, exec f.instr s = .next ((modifyEffect false f.ea fn s).addCycles f.cycles)

section
variable (n : Byte) (w : Addr) (s : State)

theorem incForms_modify : ModifiesAtAddress s incremented (modifyForms n w s .incZp .incZpx .incAbs .incAbsx) :=
  List.forall_iff_forall_mem.mp ⟨rfl, rfl, rfl, rfl⟩

theorem decForms_modify : ModifiesAtAddress s decremented (modifyForms n w s .decZp .decZpx .decAbs .decAbsx) :=
  List.forall_iff_forall_mem.mp ⟨rfl, rfl, rfl, rfl⟩

theorem aslForms_modify : ModifiesAtAddress s shiftLeft (modifyForms n w s .aslZp .aslZpx .aslAbs .aslAbsx) :=
  List.forall_iff_forall_mem.mp ⟨rfl, rfl, rfl, rfl⟩

theorem lsrForms_modify : ModifiesAtAddress s shiftRight (modifyForms n w s .lsrZp .lsrZpx .lsrAbs .lsrAbsx) :=
  List.forall_iff_forall_mem.mp ⟨rfl, rfl, rfl, rfl⟩

theorem rolForms_modify : ModifiesAtAddress s rotateLeft (modifyForms n w s .rolZp .rolZpx .rolAbs .rolAbsx) :=
  List.forall_iff_forall_mem.mp ⟨rfl, rfl, rfl, rfl⟩

theorem rorForms_modify : ModifiesAtAddress s rotateRight (modifyForms n w s .rorZp .rorZpx .rorAbs .rorAbsx) :=
  List.forall_iff_forall_mem.mp ⟨rfl, rfl, rfl, rfl⟩

end

section
variable {s : State}

/-- A read-modify-write that changes no state on the way answers the new value in the cell, with its Z and N. -/
theorem modifiesCell_of_step {f : MemForm} {fn : Byte → State → Byte × State} {r : Byte}
    (h : exec f.instr s = .next ((modifyEffect false f.ea fn s).addCycles f.cycles)) (hfn : fn (s.read f.ea) s = (r, s)) :
    ModifiesCell s f r none := by
  have heffect : modifyEffect false f.ea fn s = (s.write f.ea r).setZN r := by
    rw [modifyEffect, hfn]
    rfl
  rw [heffect] at h
  exact ⟨_, h, write_read_same s f.ea r, setZN_flag_z _ r, setZN_flag_n _ r, nofun, rfl, rfl,
    addCycles_after (write_setZN_frame s r f.ea) _⟩

/-- A shift or rotate of a cell sets C to the bit shifted out before the value is written back. -/
theorem modifiesCell_of_shifted {f : MemForm} {fn : Byte → Bool → Byte × Bool} {r : Byte} {out : Bool}
    (h : exec f.instr s = .next ((modifyEffect false f.ea (shifted fn) s).addCycles f.cycles))
    (hfn : fn (s.read f.ea) (s.flag .c) = (r, out)) : ModifiesCell s f r (some out) := by
  have heffect : modifyEffect false f.ea (shifted fn) s = ((s.setFlag .c out).write f.ea r).setZN r := by
    simp only [modifyEffect, shifted, hfn, Bool.false_eq_true, ↓reduceIte]
  rw [heffect] at h
  have hc : (((s.setFlag .c out).write f.ea r).setZN r).flag .c = out := by
    simp only [State.setZN_flag, State.write_flag, State.setFlag_flag, reduceCtorEq, ↓reduceIte]
  have hframe : Frame s (((s.setFlag .c out).write f.ea r).setZN r) [] [.z, .n, .c] [f.ea] :=
    frame_mono (frame_seq (setFlag_frame s .c out) (write_setZN_frame _ r f.ea)) nofun (by decide) fun _ h => h
  exact ⟨_, h, write_read_same _ f.ea r, setZN_flag_z _ r, setZN_flag_n _ r,
    fun _ he => (State.addCycles_flag ..).trans (hc.trans (Option.some.inj he)), rfl, rfl, addCycles_after hframe _⟩

/-- The accumulator form of a shift or rotate: the same on A (R220). -/
theorem modifiesA_of_shifted {i : Instr} {fn : Byte → Bool → Byte × Bool} {r : Byte} {out : Bool}
    (h : exec i s = .next ((modifyEffect true 0 (shifted fn) s).addCycles 2)) (hfn : fn s.a (s.flag .c) = (r, out)) :
    ModifiesA s i r out := by
  have heffect : modifyEffect true 0 (shifted fn) s = loadA r (s.setFlag .c out) := by
    simp only [modifyEffect, shifted, hfn, ↓reduceIte]
    rfl
  rw [heffect] at h
  have hc : (loadA r (s.setFlag .c out)).flag .c = out := by
    simp only [loadA, State.setZN_flag, State.setA_flag, State.setFlag_flag, reduceCtorEq, ↓reduceIte]
  exact ⟨_, h, rfl, setZN_flag_z _ r, setZN_flag_n _ r, (State.addCycles_flag ..).trans hc, rfl, rfl,
    addCycles_after (frame_mono (frame_seq (setFlag_frame s .c out) (loadA_frame _ r)) (fun _ h => h) (by decide) nofun) _⟩

end

/-- Settles O19: the step of INC and DEC is the byte plus or minus 1. -/
theorem memoryIncrementAndDecrementWrap : Obligations.MemoryIncrementAndDecrementWrap := fun s n w =>
  ⟨fun f hf => modifiesCell_of_step (incForms_modify n w s f hf) (congrArg (·, s) (add_one_eq_ofNat _)),
    fun f hf => modifiesCell_of_step (decForms_modify n w s f hf) (congrArg (·, s) (sub_one_eq_ofNat _))⟩

/-- Settles O21: both forms of ASL and LSR apply `aslStep` and `lsrStep`. -/
theorem shiftsMoveOneBitIntoCarry : Obligations.ShiftsMoveOneBitIntoCarry := fun s n w =>
  ⟨modifiesA_of_shifted rfl (aslStep_eq ..), fun f hf => modifiesCell_of_shifted (aslForms_modify n w s f hf) (aslStep_eq ..),
    modifiesA_of_shifted rfl (lsrStep_eq ..), fun f hf => modifiesCell_of_shifted (lsrForms_modify n w s f hf) (lsrStep_eq ..)⟩

/-- Settles O22: both forms of ROL and ROR apply `rolStep` and `rorStep` with the C before. -/
theorem rotatesFeedThePreviousCarry : Obligations.RotatesFeedThePreviousCarry := fun s n w =>
  ⟨modifiesA_of_shifted rfl (rolStep_eq ..), fun f hf => modifiesCell_of_shifted (rolForms_modify n w s f hf) (rolStep_eq ..),
    modifiesA_of_shifted rfl (rorStep_eq ..), fun f hf => modifiesCell_of_shifted (rorForms_modify n w s f hf) (rorStep_eq ..)⟩

end Sys2Proof.Proofs.MemoryInstructions
end

section
/-! The results of the control transfer, stack, flag, no-operation and system instructions (spec/45_control_transfer.md and
spec/46_stack_flags_system.md). -/

namespace Sys2Proof.Proofs.ControlAndStackInstructions

open Sys2Proof.Machine Sys2Proof.Claims Sys2Proof.Proofs.Scope Sys2Proof.Proofs.ControlTransfer Sys2Proof.Proofs.Stack
  Sys2Proof.Proofs.Frames Sys2Proof.Proofs.RegisterInstructions

/-! ## Branches (R240 to R248) -/

theorem branchOn_false (d : Descriptor) (f : Flag) (r : Byte) (s : State) :
    branchOn d f false r s = .next ((branchIf (!s.flag f) r s).account d false) := by
  rw [branchOn, beq_false]

theorem branchOn_true (d : Descriptor) (f : Flag) (r : Byte) (s : State) :
    branchOn d f true r s = .next ((branchIf (s.flag f) r s).account d false) := by
  rw [branchOn, beq_true]

theorem branchForms_run (r : Byte) (s : State) :
    ∀ f ∈ branchForms r s, exec f.1 s = .next ((branchIf f.2 r s).addCycles 2) :=
  List.forall_iff_forall_mem.mp ⟨branchOn_false _ .n r s, branchOn_true _ .n r s, branchOn_false _ .v r s, branchOn_true _ .v r s,
    branchOn_false _ .c r s, branchOn_true _ .c r s, branchOn_false _ .z r s, branchOn_true _ .z r s⟩

theorem branchIf_pc_toNat (cond : Bool) (r : Byte) (s : State) :
    (branchIf cond r s).pc.toNat = if cond then (((s.pc.toNat : Int) + r.toInt) % 65536).toNat else s.pc.toNat := by
  cases cond
  · rfl
  · exact add_sext16_toNat s.pc r

theorem branchIf_cycles_eq (cond : Bool) (r : Byte) (s : State) :
    (branchIf cond r s).cycles =
      s.cycles + if cond then (if (branchIf cond r s).pc.toNat / 256 ≠ s.pc.toNat / 256 then 2 else 1) else 0 := by
  cases cond
  · rfl
  · rw [branchIf_true_cycles, if_pos rfl, Nat.add_assoc]
    split <;> rfl

/-- Settles O24: each branch is `branchIf` on its condition, then the base cost of 2. -/
theorem branchesTestTheirFlag : Obligations.BranchesTestTheirFlag := by
  intro s r f hf
  refine ⟨_, branchForms_run r s f hf, branchIf_pc_toNat f.2 r s, ?_, addCycles_after (branchIf_frame f.2 r s) 2⟩
  rw [State.addCycles_cycles, State.addCycles_pc, branchIf_cycles_eq]
  exact Nat.add_right_comm ..

/-! ## Jumps and subroutines (R249 to R251) -/

/-- Settles O25: both forms set PC alone; the indirect one to what `Read16Bug` reads. -/
theorem jumpsGoToTheirTarget : Obligations.JumpsGoToTheirTarget := fun s w =>
  ⟨⟨_, rfl, rfl, rfl, addCycles_after (setPc_frame s w) 3⟩,
    ⟨_, rfl, read16Bug_toNat s w, rfl, addCycles_after (setPc_frame s _) 5⟩⟩

theorem exec_jsr (s : State) (w : Addr) : exec (.jsr w) s = .next ((jumpToSubroutine w s).addCycles 6) := rfl

theorem exec_rts (s : State) : exec .rts s = .next ((returnFromSubroutine s).addCycles 6) := rfl

/-- The two bytes of a pushed word, read as a number. -/
theorem push16_read_word (s : State) (w : Addr) :
    ((s.push16 w).read (stackAddr s.sp)).toNat * 256 + ((s.push16 w).read (stackAddr (s.sp - 1))).toNat = w.toNat := by
  rw [push16_read_high, push16_read_low, ← hiLo_toNat, hiLo_bytes]

/-- Settles O26: JSR is `push16` of PC less 1 and a jump. -/
theorem subroutineCallPushesReturnAddressLessOne : Obligations.SubroutineCallPushesReturnAddressLessOne := by
  intro s w
  have hsp : (jumpToSubroutine w s).sp.toNat = (s.sp.toNat + 254) % 256 := by
    rw [jumpToSubroutine, State.setPc_sp, push16_sp_toNat]
  refine ⟨_, exec_jsr s w, rfl, ?_, hsp, rfl, addCycles_after (jumpToSubroutine_frame s w) 6⟩
  simp only [State.addCycles_read, jumpToSubroutine, State.setPc_read]
  rw [push16_read_word, BitVec.toNat_sub, Nat.add_comm]
  rfl

theorem pulled_pulled_sp_toNat (s : State) : s.pulled.pulled.sp.toNat = (s.sp.toNat + 2) % 256 := by
  rw [pulled_sp_toNat, pulled_sp_toNat]
  omega

/-- Settles O27: PC is the pulled word plus 1. -/
theorem subroutineReturnPullsAndAddsOne : Obligations.SubroutineReturnPullsAndAddsOne := by
  intro s
  refine ⟨_, exec_rts s, ?_, pulled_pulled_sp_toNat s, rfl, addCycles_after (returnFromSubroutine_frame s) 6⟩
  refine (BitVec.toNat_add s.pull16 1).trans ?_
  rw [pull16_toNat]
  rfl

/-- A pulled word is the one pushed last. -/
theorem push16_pull16 (s : State) (w : Addr) : (s.push16 w).pull16 = w := by
  simp only [State.pull16, State.pull, State.pulled_read, State.pulled_sp, State.push16_sp, BitVec.sub_add_cancel,
    push16_read_high, push16_read_low, hiLo_bytes]

theorem setPc_pull16 (s : State) (w : Addr) : (s.setPc w).pull16 = s.pull16 := rfl

theorem jumpToSubroutine_pull16 (s : State) (w : Addr) : (jumpToSubroutine w s).pull16 = s.pc - 1 := by
  rw [jumpToSubroutine, setPc_pull16, push16_pull16]

/-- Settles O28: RTS pulls the word that JSR pushed, from the two slots that JSR took; no other register and no flag is in the
frame of either. -/
theorem returnUndoesCall : Obligations.ReturnUndoesCall := by
  intro s w
  have hframe := frame_seq (addCycles_after (jumpToSubroutine_frame s w) 6)
    (addCycles_after (returnFromSubroutine_frame ((jumpToSubroutine w s).addCycles 6)) 6)
  refine ⟨_, _, exec_jsr s w, exec_rts _, ?_, fun r => ?_, fun f => hframe.flags f List.not_mem_nil⟩
  · have hpull : ((jumpToSubroutine w s).addCycles 6).pull16 = s.pc - 1 := jumpToSubroutine_pull16 s w
    rw [State.addCycles_pc, returnFromSubroutine, State.setPc_pc, hpull, BitVec.sub_add_cancel]
  · by_cases hr : r = .sp
    · subst hr
      have hsp : s.sp - 1 - 1 + 1 + 1 = s.sp := by rw [BitVec.sub_add_cancel, BitVec.sub_add_cancel]
      exact hsp
    · exact hframe.registers r (by simpa using hr)

/-! ## Push and pull (R262 to R265) -/

theorem toNat_eq_bits (v : Byte) :
    v.toNat = 128 * (v.getLsbD 7).toNat + 64 * (v.getLsbD 6).toNat + 32 * (v.getLsbD 5).toNat + 16 * (v.getLsbD 4).toNat +
      8 * (v.getLsbD 3).toNat + 4 * (v.getLsbD 2).toNat + 2 * (v.getLsbD 1).toNat + (v.getLsbD 0).toNat := by
  decide +revert

/-- The byte N V 1 1 D I Z C that PHP and BRK push. -/
theorem pushedP_toNat (s : State) :
    (s.readP ||| 0x30).toNat =
      128 * (s.flag .n).toNat + 64 * (s.flag .v).toNat + 48 + 8 * (s.flag .d).toNat + 4 * (s.flag .i).toNat +
        2 * (s.flag .z).toNat + (s.flag .c).toNat := by
  have hn : s.readP.getLsbD 7 = s.flag .n := s.readP_flag .n
  have hv : s.readP.getLsbD 6 = s.flag .v := s.readP_flag .v
  have hd : s.readP.getLsbD 3 = s.flag .d := s.readP_flag .d
  have hi : s.readP.getLsbD 2 = s.flag .i := s.readP_flag .i
  have hz : s.readP.getLsbD 1 = s.flag .z := s.readP_flag .z
  have hc : s.readP.getLsbD 0 = s.flag .c := s.readP_flag .c
  have hmask : ∀ k < 8, (0x30 : Byte).getLsbD k = decide (k = 4 ∨ k = 5) := by decide
  rw [toNat_eq_bits]
  simp only [BitVec.getLsbD_or, hn, hv, hd, hi, hz, hc, hmask, Nat.reduceLT, Nat.reduceEqDiff, or_self,
    or_true, or_false, decide_true, decide_false, Bool.or_true, Bool.or_false, Bool.toNat_true]

/-- Settles O29: both are one push, of A and of the byte of `pushedP_toNat`. -/
theorem pushesStoreAAndForcedP : Obligations.PushesStoreAAndForcedP := fun s =>
  ⟨⟨_, rfl, push_read_slot s s.a, push_sp_toNat s s.a, rfl, rfl, addCycles_after (push_frame s s.a) 3⟩,
    ⟨_, rfl, push_sp_toNat s (s.readP ||| 0x30), rfl, rfl, (congrArg BitVec.toNat (push_read_slot s _)).trans (pushedP_toNat s),
      addCycles_after (push_frame s (s.readP ||| 0x30)) 3⟩⟩

/-- Settles O30: PLA loads the pulled byte into A. -/
theorem pullOfAccumulatorSetsZN : Obligations.PullOfAccumulatorSetsZN := fun s =>
  ⟨_, rfl, rfl, setZN_flag_z _ s.pull, setZN_flag_n _ s.pull, pulled_sp_toNat s, rfl, rfl, addCycles_after (pullA_frame s) 4⟩

/-- Settles O31: every flag after a pull is given by `State.pullP_flag`. -/
theorem pullOfStatusNeverRestoresBreak : Obligations.PullOfStatusNeverRestoresBreak := fun s =>
  ⟨_, rfl, s.pullP_flag .n, s.pullP_flag .v, s.pullP_flag .d, s.pullP_flag .i, s.pullP_flag .z, s.pullP_flag .c,
    s.pullP_unused, s.pullP_flag .b, pulled_sp_toNat s, rfl, rfl, addCycles_after (pullP_frame s) 4⟩

/-! ## Flags, no-operation, break and return from interrupt (R266 to R286) -/

theorem flagForms_run (s : State) : ∀ f ∈ flagForms, exec f.1 s = .next ((s.setFlag f.2.1 f.2.2).addCycles 2) :=
  List.forall_iff_forall_mem.mp ⟨rfl, rfl, rfl, rfl, rfl, rfl, rfl⟩

/-- Settles O32: each is one `setFlag`. -/
theorem flagInstructionsWriteOneFlag : Obligations.FlagInstructionsWriteOneFlag := fun s f hf =>
  ⟨_, flagForms_run s f hf, (s.setFlag_flag f.2.1 f.2.1 f.2.2).trans (if_pos rfl), rfl, rfl,
    addCycles_after (setFlag_frame s _ _) 2⟩

theorem nopForms_run (n : Byte) (w : Addr) (s : State) : ∀ f ∈ nopForms n w s, exec f.1 s = .next (s.addCycles f.2) :=
  List.forall_iff_forall_mem.mp ⟨rfl, rfl, rfl, rfl, rfl, rfl, rfl, rfl, rfl, rfl, rfl, rfl, rfl, rfl, rfl, rfl, rfl, rfl, rfl,
    rfl, rfl, rfl, rfl, rfl, rfl, rfl, rfl, rfl⟩

/-- Settles O33: each counts its cycles and does nothing else. -/
theorem nopFormsChangeOnlyCycles : Obligations.NopFormsChangeOnlyCycles := fun s n w f hf =>
  ⟨_, nopForms_run n w s f hf, rfl, rfl, addCycles_frame s _⟩

theorem exec_brk (s : State) : exec .brk s = .next ((softwareBreak s).addCycles 7) := rfl

/-- Two stack slots less than 256 apart are two bytes. -/
theorem stackAddr_ne_stackAddr_sub (sp : Byte) {k : Byte} (hk : k ≠ 0) : stackAddr sp ≠ stackAddr (sp - k) := by
  rw [ne_eq, stackAddr_inj, eq_comm, sub_eq_self]
  exact hk

section
variable (s : State)

theorem softwareBreak_read (c : Addr) :
    (softwareBreak s).read c =
      if c = stackAddr (s.sp - 2) then s.readP ||| 0x30
      else if c = stackAddr (s.sp - 1) then lowByte (s.pc + 1)
      else if c = stackAddr s.sp then highByte (s.pc + 1) else s.read c := by
  have hthird : s.sp - 1 - 1 = s.sp - 2 := sub_sub s.sp 1 1
  rw [← hthird]
  exact s.skipByte.enterBreak_read c

theorem softwareBreak_read_high : (softwareBreak s).read (stackAddr s.sp) = highByte (s.pc + 1) := by
  rw [softwareBreak_read, if_neg (stackAddr_ne_stackAddr_sub s.sp (by decide)),
    if_neg (stackAddr_ne_stackAddr_sub s.sp (by decide)), if_pos rfl]

theorem softwareBreak_read_low : (softwareBreak s).read (stackAddr (s.sp - 1)) = lowByte (s.pc + 1) := by
  have hthird : s.sp - 2 = s.sp - 1 - 1 := (sub_sub s.sp 1 1).symm
  rw [softwareBreak_read, hthird, if_neg (stackAddr_ne_stackAddr_sub_one (s.sp - 1)), if_pos rfl]

theorem softwareBreak_read_status : (softwareBreak s).read (stackAddr (s.sp - 2)) = s.readP ||| 0x30 := by
  rw [softwareBreak_read, if_pos rfl]

theorem softwareBreak_read_of_notMem {c : Addr}
    (h : c ∉ [stackAddr s.sp, stackAddr (s.sp - 1), stackAddr (s.sp - 2)]) : (softwareBreak s).read c = s.read c := by
  obtain ⟨h0, h1, h2⟩ : c ≠ stackAddr s.sp ∧ c ≠ stackAddr (s.sp - 1) ∧ c ≠ stackAddr (s.sp - 2) := by simpa using h
  rw [softwareBreak_read, if_neg h2, if_neg h1, if_neg h0]

theorem softwareBreak_sp_toNat : (softwareBreak s).sp.toNat = (s.sp.toNat + 253) % 256 := by
  have hsp : (softwareBreak s).sp = s.sp - 1 - 1 - 1 := s.skipByte.enterBreak_sp
  rw [hsp]
  simp
  omega

end

/-- Settles O34: the three slots by `softwareBreak_read`, the other fields by those of the break entry. -/
theorem breakPushesItsFrameAndHalts : Obligations.BreakPushesItsFrameAndHalts := by
  intro s
  have hflag (f : Flag) : (softwareBreak s).flag f = if f = .i then true else s.flag f := s.skipByte.enterBreak_flag f
  refine ⟨_, exec_brk s, s.skipByte.enterBreak_halted, s.skipByte.enterBreak_haltReason, s.skipByte.enterBreak_pc, ?_, ?_,
    softwareBreak_sp_toNat s, hflag .i, fun f hf => (hflag f).trans (if_neg hf),
    congrArg (· + 7) s.skipByte.enterBreak_cycles, s.skipByte.enterBreak_a, s.skipByte.enterBreak_x, s.skipByte.enterBreak_y,
    s.skipByte.enterBreak_params, fun c hc => softwareBreak_read_of_notMem s hc⟩
  · simp only [State.addCycles_read, softwareBreak_read_high, softwareBreak_read_low]
    rw [← hiLo_toNat, hiLo_bytes, BitVec.toNat_add]
    rfl
  · simp only [State.addCycles_read, softwareBreak_read_status, pushedP_toNat]

theorem exec_rti (s : State) : exec .rti s = .next (s.returnFromInterrupt.addCycles 6) := rfl

/-- Settles O35: the flags are those of the pull of P, and PC is the next two bytes. -/
theorem returnFromInterruptPullsStatusThenPc : Obligations.ReturnFromInterruptPullsStatusThenPc := by
  intro s v
  have hflag (f : Flag) : (s.returnFromInterrupt.addCycles 6).flag f =
      if f = .b then (if s.params.pullB = .keep then s.flag .b else false) else v.getLsbD (flagBit f) := by
    rw [State.addCycles_flag, State.returnFromInterrupt_flag, State.pullP_flag]
    rfl
  have hunused : (s.returnFromInterrupt.addCycles 6).p.getLsbD 5 = true := s.pullP_unused
  have hsecond : s.sp + 1 + 1 = s.sp + 2 := BitVec.add_assoc s.sp 1 1
  have hthird : s.sp + 2 + 1 = s.sp + 3 := BitVec.add_assoc s.sp 2 1
  have hpc := s.returnFromInterrupt_pc
  have hsp := s.returnFromInterrupt_sp
  rw [hsecond, hthird] at hpc hsp
  refine ⟨_, exec_rti s, hflag .n, hflag .v, hflag .d, hflag .i, hflag .z, hflag .c, hunused, hflag .b, ?_, ?_,
    congrArg (· + 6) s.returnFromInterrupt_cycles, addCycles_after (returnFromInterrupt_frame s) 6⟩
  · exact (congrArg BitVec.toNat hpc).trans (hiLo_toNat _ _)
  · exact (congrArg BitVec.toNat hsp).trans (BitVec.toNat_add s.sp 3)

end Sys2Proof.Proofs.ControlAndStackInstructions
end

section
/-! The memory as data (spec/20_memory.md, sections 1 and 7), the host's accessors, the program load, the listing, and the reset
operation (spec/70_reset_and_hazards.md). -/

namespace Sys2Proof.Proofs.MemoryAndHost

open Sys2Proof.Machine Sys2Proof.Claims Sys2Proof.Proofs.Scope Sys2Proof.Proofs.Encoding Sys2Proof.Proofs.StatusRegister

/-! ## Canonical memories -/

theorem wfFrom_cons {lo k : Nat} {v : Byte} {m : Memory} :
    Memory.wfFrom lo ((k, v) :: m) = true ↔ lo ≤ k ∧ k < 65536 ∧ v ≠ unlistedByte ∧ Memory.wfFrom (k + 1) m = true := by
  simp only [Memory.wfFrom, Bool.and_eq_true, decide_eq_true_eq, bne_iff_ne, and_assoc]

/-- Below the first address a canonical list lists nothing. -/
theorem read_of_lt {m : Memory} {lo : Nat} (h : Memory.wfFrom lo m = true) {a : Addr} (ha : a.toNat < lo) :
    m.read a = unlistedByte := by
  induction m generalizing lo with
  | nil => rfl
  | cons c m ih =>
    obtain ⟨hle, -, -, hrest⟩ := wfFrom_cons.mp h
    rw [Memory.read, if_neg (by omega)]
    exact ih hrest (by omega)

theorem read_head {k : Nat} (hk : k < 65536) (v : Byte) (m : Memory) :
    Memory.read ((k, v) :: m) (BitVec.ofNat 16 k) = v := by
  rw [Memory.read, if_pos (BitVec.toNat_ofNat .. ▸ (Nat.mod_eq_of_lt hk).symm)]

/-- A canonical list that reads like another begins no lower: the other would read the unlisted byte there. -/
theorem le_head_of_read_eq {lo lo2 k : Nat} {v : Byte} {m m2 : Memory} (h : Memory.wfFrom lo ((k, v) :: m) = true)
    (h2 : Memory.wfFrom lo2 m2 = true) (hread : ∀ a : Addr, Memory.read ((k, v) :: m) a = m2.read a) : lo2 ≤ k := by
  obtain ⟨-, hk, hv, -⟩ := wfFrom_cons.mp h
  by_contra hlt
  have hunlisted : m2.read (BitVec.ofNat 16 k) = unlistedByte :=
    read_of_lt h2 (by rw [BitVec.toNat_ofNat]; omega)
  rw [← hread, read_head hk] at hunlisted
  exact hv hunlisted

theorem eq_of_read_eq {m m2 : Memory} {lo lo2 : Nat} (h : Memory.wfFrom lo m = true) (h2 : Memory.wfFrom lo2 m2 = true)
    (hread : ∀ a : Addr, m.read a = m2.read a) : m = m2 := by
  induction m generalizing m2 lo lo2 with
  | nil =>
    cases m2 with
    | nil => rfl
    | cons c2 m2 =>
      have hle : c2.1 + 1 ≤ c2.1 := le_head_of_read_eq (m2 := []) h2 rfl fun a => (hread a).symm
      omega
  | cons c m ih =>
    obtain ⟨k, v⟩ := c
    obtain ⟨-, hk, hv, hrest⟩ := wfFrom_cons.mp h
    cases m2 with
    | nil =>
      have hle : k + 1 ≤ k := le_head_of_read_eq (m2 := []) h rfl hread
      omega
    | cons c2 m2 =>
      obtain ⟨j, w⟩ := c2
      obtain ⟨-, hj, hw, hrest2⟩ := wfFrom_cons.mp h2
      have hjk : j ≤ k := le_head_of_read_eq h (wfFrom_cons.mpr ⟨le_rfl, hj, hw, hrest2⟩) hread
      have hkj : k ≤ j := le_head_of_read_eq h2 (wfFrom_cons.mpr ⟨le_rfl, hk, hv, hrest⟩) fun a => (hread a).symm
      obtain rfl : k = j := Nat.le_antisymm hkj hjk
      obtain rfl : v = w := by
        have hhead := hread (BitVec.ofNat 16 k)
        rwa [read_head hk, read_head hk] at hhead
      have htail : m = m2 := ih hrest hrest2 fun a => by
        by_cases ha : k = a.toNat
        · rw [read_of_lt hrest (by omega), read_of_lt hrest2 (by omega)]
        · have hboth := hread a
          rwa [Memory.read, Memory.read, if_neg ha, if_neg ha] at hboth
      rw [htail]

/-- Settles O2: equality of the lists by induction on both, `eq_of_read_eq`. -/
theorem canonicalMemoriesThatReadAlikeAreEqual : Obligations.CanonicalMemoriesThatReadAlikeAreEqual :=
  fun _ _ h h2 hread => eq_of_read_eq h h2 hread

/-! ## The host's accessors (R80) -/

theorem ofNat_mod_65536 (a : Nat) : BitVec.ofNat 16 (a % 65536) = BitVec.ofNat 16 a := by
  apply BitVec.eq_of_toNat_eq
  simp

theorem ofNat_eq_iff (a b : Nat) : BitVec.ofNat 16 b = BitVec.ofNat 16 a ↔ b % 65536 = a % 65536 := by
  rw [← BitVec.toNat_inj, BitVec.toNat_ofNat, BitVec.toNat_ofNat]

theorem hostRead_write (s : State) (a b : Nat) (v : Byte) :
    (s.write (BitVec.ofNat 16 a) v).hostRead b = if b % 65536 = a % 65536 then v else s.hostRead b := by
  rw [State.hostRead, State.write_read]
  simp only [ofNat_eq_iff]
  rfl

/-- Settles O58: the masked address is one address, and a value in range is the byte it names. -/
theorem hostAccessorsMaskAndReject : Obligations.HostAccessorsMaskAndReject := by
  intro s a v
  refine ⟨by rw [ofNat_mod_65536]; rfl, fun h0 h255 => ?_, fun h => if_neg (by omega)⟩
  have hwrite : s.hostWrite a v = s.write (BitVec.ofNat 16 a) (BitVec.ofInt 8 v) := if_pos ⟨h0, h255⟩
  have hvalue : (BitVec.ofInt 8 v).toNat = v.toNat := by
    rw [BitVec.toNat_ofInt]
    omega
  rw [hwrite]
  refine ⟨?_, fun b hb => ?_, _, rfl⟩
  · rw [hostRead_write, if_pos rfl, hvalue]
  · rw [hostRead_write, if_neg hb]

/-! ## Program load (R78) -/

theorem store_cons (m : Memory) (base : Nat) (v : Byte) (bs : List Byte) :
    m.store (BitVec.ofNat 16 base) (v :: bs) =
      (m.write (BitVec.ofNat 16 base) v).store (BitVec.ofNat 16 (base + 1)) bs := by
  rw [Memory.store, BitVec.ofNat_add]
  rfl

/-- A store of a run of bytes leaves every address outside the run. -/
theorem read_store_of_notMem {m : Memory} {base : Nat} {bs : List Byte} {a : Addr} (hfit : base + bs.length ≤ 65536)
    (ha : a.toNat < base ∨ base + bs.length ≤ a.toNat) : (m.store (BitVec.ofNat 16 base) bs).read a = m.read a := by
  induction bs generalizing m base with
  | nil => rfl
  | cons v bs ih =>
    rw [List.length_cons] at hfit ha
    have hne : a ≠ BitVec.ofNat 16 base := by
      rintro rfl
      rw [BitVec.toNat_ofNat] at ha
      omega
    rw [store_cons, ih (by omega) (by omega), Memory.read_write, if_neg hne]

theorem read_store_getElem {m : Memory} {base : Nat} {bs : List Byte} {k : Nat} {v : Byte} (hfit : base + bs.length ≤ 65536)
    (hk : bs[k]? = some v) : (m.store (BitVec.ofNat 16 base) bs).read (BitVec.ofNat 16 (base + k)) = v := by
  induction bs generalizing m base k with
  | nil => contradiction
  | cons first bs ih =>
    rw [List.length_cons] at hfit
    rw [store_cons]
    cases k with
    | zero =>
      obtain rfl : first = v := Option.some.inj hk
      rw [read_store_of_notMem (by omega) (.inl (by rw [BitVec.toNat_ofNat]; omega)), Memory.read_write]
      exact if_pos rfl
    | succ k =>
      rw [Nat.add_comm k 1, ← Nat.add_assoc]
      exact ih (by omega) hk

/-- Settles O59: a load that fits is `Memory.store` over the image, read inside and outside the run. -/
theorem programLoadIsAllOrNothing : Obligations.ProgramLoadIsAllOrNothing := by
  intro s image base bs t
  refine ⟨fun hfit => ?_, fun hlong => if_neg (by omega)⟩
  have ht : t = { s with mem := image.store (BitVec.ofNat 16 base) bs } := if_pos hfit
  rw [ht]
  exact ⟨fun k v hk => read_store_getElem hfit hk, fun a ha => read_store_of_notMem hfit ha, _, rfl⟩

/-! ## The listing (R81) -/

theorem encode_length_eq_descriptor (i : Instr) : (encode i).length = (descriptorOf i).length := by
  cases i <;> rfl

theorem disassemble_length (s : State) (k : Nat) (a : Addr) : (s.disassemble k a).length = k := by
  induction k generalizing a with
  | zero => rfl
  | succ k ih =>
    rw [State.disassemble]
    split <;> rw [List.length_cons, ih]

/-- Settles O60: each record is what `State.instrAt` answers at its address; the descriptor's length is the encoding's. -/
theorem disassemblyStepsByDescriptorLength : Obligations.DisassemblyStepsByDescriptorLength := by
  intro s k a
  refine ⟨disassemble_length s k a, fun i rest hdec => ?_, fun why hdec => ?_⟩
  · rw [State.disassemble, (s.instrAt_ok a i).mpr ⟨rest, hdec⟩, encode_length_eq_descriptor]
  · rw [State.disassemble, (s.instrAt_error a why).mpr hdec]

/-! ## Reset (R45, R330) -/

theorem applyReset_pc_of_none (s : State) {inp : ResetInput} (h : inp.pcOverride = none) :
    (s.applyReset inp).pc.toNat = (s.read 0xFFFD).toNat * 256 + (s.read 0xFFFC).toNat := by
  have hpc : (s.applyReset inp).pc = s.mem.read16 Config.resetVector := by
    rw [State.applyReset, resetPc, h]
  rw [hpc, Memory.read16, hiLo_toNat]
  rfl

/-- Reset sets I and takes every other flag from p0 (D5). -/
theorem resetP_flag (inp : ResetInput) (f : Flag) :
    (resetP inp).getLsbD (flagBit f) = if f = .i then true else inp.p0.getLsbD (flagBit f) := by
  have hset : (0x24 : Byte).getLsbD (flagBit f) = decide (f = .i) := by cases f <;> decide
  rw [resetP, BitVec.getLsbD_or, hset]
  by_cases hf : f = .i <;> simp [hf]

/-- Settles O51: PC and P by their lemmas; every other field is set or kept as it stands in `State.applyReset`. -/
theorem resetOperationSetsWhatTheSpecNames : Obligations.ResetOperationSetsWhatTheSpecNames := by
  intro s inp t
  have hoverride (pc : Addr) (h : inp.pcOverride = some pc) : t.pc = pc := by
    change resetPc inp s.mem = pc
    rw [resetPc, h]
  exact ⟨hoverride, applyReset_pc_of_none s, rfl, rfl, rfl, rfl, resetP_flag inp .i, applyReset_unused s inp,
    fun f hf => (resetP_flag inp f).trans (if_neg hf), rfl, rfl, rfl, fun _ => rfl, rfl⟩

/-- Settles O50: every value is read off `State.reset`. -/
theorem resetStateMeetsTheInvariant : Obligations.ResetStateMeetsTheInvariant :=
  ⟨⟨by decide, iff_of_true rfl rfl, nofun, launchMemory_wf, by decide⟩, rfl, rfl, rfl, rfl, rfl, rfl⟩

end Sys2Proof.Proofs.MemoryAndHost
end
